-- ==== Sys2Proof/Word.lean ====
section
/-! DEFINITION. The byte of the stream and of every window cell. -/

namespace Sys2Proof

/-- One byte: 8 bits, bit 7 the most significant (R7, R10 of spec/00_scope.md). -/
abbrev Byte := BitVec 8

end Sys2Proof
end

