-- ==== Sys2Proof/Config.lean ====
section
/-! DEFINITION. What an instance of the block fixes: the constants of R7 (spec/00_scope.md), the
types of the decode tables of R8, and the two parameters the spec leaves OPEN, as opaque
constants. The default tables are in Machine/Tables.lean. -/

namespace Sys2Proof

/-- The state of one axis (R61 of spec/30_encoding.md): no flag, the positive flag, the negative
flag, or both flags set. -/
inductive Axis where
  | stop
  | pos
  | neg
  | ambiguous
deriving DecidableEq, Repr, Inhabited

/-- The actions of the extended-command table (R53, R60 of spec/30_encoding.md). -/
inductive ExtAct where
  | setPreset
  | clearPreset
  | gotoPreset
  | setAux
  | clearAux
  | startRecordingTour
  | stopRecordingTour
  | startTour
  | setZoomSpeed
deriving DecidableEq, Repr

/-- The named functions of Bosch op-code 0x07 (R56, R60 of spec/30_encoding.md). -/
inductive AuxFn where
  | auxOn
  | auxOff
  | presetSet
  | presetShot
  | cancelLatchingAux
  | latchingAuxOn
  | latchingAuxOff
deriving DecidableEq, Repr

/-- The record BOSCH_VS_DECODE returns (R129 of spec/44_bosch.md). -/
structure VarSpeed where
  pan : Axis
  panSpeed : BitVec 4
  tilt : Axis
  tiltSpeed : BitVec 4
  zoom : Axis
  zoomSpeed : BitVec 4
  iris : Axis
  focus : Axis
deriving DecidableEq, Repr, Inhabited

/-- The two command bytes of a Pelco frame: frame byte 2 and frame byte 3 (R49). -/
inductive CmdByte where
  | cmd1
  | cmd2
deriving DecidableEq, Repr

/-- Where one flag of an axis stands: a command byte and a bit of it (R97 of
spec/42_pelco_standard.md). -/
structure FlagPos where
  byte : CmdByte
  bit : Fin 8
deriving DecidableEq, Repr

/-- The two flags of one axis (R50, R51). -/
structure AxisFlags where
  positive : FlagPos
  negative : FlagPos
deriving DecidableEq, Repr

/-- A standard-command bit map: PD_BITMAP or PP_BITMAP (R50, R51). -/
structure BitMap where
  pan : AxisFlags
  tilt : AxisFlags
  zoom : AxisFlags
  focus : AxisFlags
  iris : AxisFlags
deriving DecidableEq, Repr

/-- One row of EXT_LUT: the exact triple and its action (R53, R54). -/
structure ExtRow where
  cmd1 : Byte
  cmd2 : Byte
  data1 : Byte
  action : ExtAct
deriving DecidableEq, Repr

/-- The parameters of an instance that are plain data (R8). Each is fixed for the life of the
instance and nothing writes it (R23, R42; log 4). -/
structure Config where
  /-- PD_BITMAP (R50). -/
  pdBitmap : BitMap
  /-- PP_BITMAP (R51). -/
  ppBitmap : BitMap
  /-- EXT_LUT, shared by lanes D and P (R53, R102). -/
  extLut : List ExtRow
  /-- BOSCH_AUX_FN_SEL: the lowest of the four bits of `f[4]` that hold the function code (R57). -/
  auxFnSel : Fin 4
  /-- PD_CKSUM_LEGACY (R76). -/
  pdCksumLegacy : Bool
deriving DecidableEq, Repr

/-- N_D: capacity of the Pelco D window (R7). -/
abbrev Config.capD : Nat := 7
/-- N_P: capacity of the Pelco P window (R7). -/
abbrev Config.capP : Nat := 8
/-- N_B: capacity of the Bosch window (R7). -/
abbrev Config.capB : Nat := 128
/-- SYNC_D: the Pelco D sync byte (R7). -/
abbrev Config.syncD : Byte := 0xFF
/-- SYNC_P: the Pelco P start byte (R7). -/
abbrev Config.syncP : Byte := 0xA0
/-- END_P: the Pelco P end byte (R7). -/
abbrev Config.endP : Byte := 0xAF

/-- BOSCH_VS_DECODE, OPEN: a function of the three 7-bit data bytes of an op-code 0x05 frame and of
nothing else (R129, R130 of spec/44_bosch.md; log 10). It has no body: no proof can see a field. -/
opaque Config.boschVsDecode : BitVec 7 → BitVec 7 → BitVec 7 → VarSpeed

/-- The part of BOSCH_NAMED_OPS that the spec leaves OPEN (R55 of spec/30_encoding.md; log 9). It is
asked only about op-codes other than 0x05, 0x07 and 0x1A, which the spec settles. -/
opaque Config.boschNamedOpen : BitVec 7 → Bool

end Sys2Proof
end

