-- ==== Sys2Proof/Machine/Tables.lean ====
section
/-! DEFINITION. The default decode tables of the instance (R50, R51, R53, R57 of
spec/30_encoding.md) and the look-ups the decoders make in a table. -/

namespace Sys2Proof

/-- The default PD_BITMAP (R50). The pan row is the source's; every other row is PRESUMED, the
standard Pelco D layout (log 5). -/
def defaultPdBitmap : BitMap where
  pan := ⟨⟨.cmd2, 1⟩, ⟨.cmd2, 2⟩⟩
  tilt := ⟨⟨.cmd2, 3⟩, ⟨.cmd2, 4⟩⟩
  zoom := ⟨⟨.cmd2, 5⟩, ⟨.cmd2, 6⟩⟩
  focus := ⟨⟨.cmd2, 7⟩, ⟨.cmd1, 0⟩⟩
  iris := ⟨⟨.cmd1, 1⟩, ⟨.cmd1, 2⟩⟩

/-- The default PP_BITMAP (R51). Pan is the source's; the places of the other rows are PRESUMED, the
standard Pelco P layout (log 6). -/
def defaultPpBitmap : BitMap where
  pan := ⟨⟨.cmd2, 1⟩, ⟨.cmd2, 2⟩⟩
  tilt := ⟨⟨.cmd2, 3⟩, ⟨.cmd2, 4⟩⟩
  zoom := ⟨⟨.cmd2, 5⟩, ⟨.cmd2, 6⟩⟩
  focus := ⟨⟨.cmd1, 0⟩, ⟨.cmd1, 1⟩⟩
  iris := ⟨⟨.cmd1, 2⟩, ⟨.cmd1, 3⟩⟩

/-- The cmd2 byte of an action's row in the default EXT_LUT; cmd1 and data1 are 0x00 in every row
(R53). -/
def extCmd2 : ExtAct → Byte
  | .setPreset => 0x03
  | .clearPreset => 0x05
  | .gotoPreset => 0x07
  | .setAux => 0x09
  | .clearAux => 0x0B
  | .startRecordingTour => 0x1F
  | .stopRecordingTour => 0x21
  | .startTour => 0x23
  | .setZoomSpeed => 0x25

/-- The default EXT_LUT (R53). The SetPreset row is the source's; the other eight are PRESUMED, the
standard Pelco codes (log 7). -/
def defaultExtLut : List ExtRow :=
  [.setPreset, .clearPreset, .gotoPreset, .setAux, .clearAux, .startRecordingTour,
    .stopRecordingTour, .startTour, .setZoomSpeed].map fun act => ⟨0x00, extCmd2 act, 0x00, act⟩

/-- The default parameters (R8), PD_CKSUM_LEGACY at the value of this hardware (R76). -/
def Config.default : Config where
  pdBitmap := defaultPdBitmap
  ppBitmap := defaultPpBitmap
  extLut := defaultExtLut
  auxFnSel := 0
  pdCksumLegacy := false

/-- The action an extended frame selects: the row whose triple equals the frame's, all 24 bits
compared (R54, R102). In a table that lists a triple twice the first row counts (log 20). -/
def extLookup (lut : List ExtRow) (cmd1 cmd2 data1 : Byte) : Option ExtAct :=
  (lut.find? fun r => r.cmd1 == cmd1 && r.cmd2 == cmd2 && r.data1 == data1).map (·.action)

/-- The 4-bit function code of an op-code 0x07 frame, out of its first data byte (R57, R131). -/
def auxFnCode (sel : Fin 4) (d1 : Byte) : BitVec 4 :=
  d1.extractLsb' sel.val 4

/-- Membership of BOSCH_NAMED_OPS: 0x05 and 0x07 are in it, 0x1A is not, no value above 0x7F is, and
the rest is OPEN (R55; log 9). -/
def boschNamed (op : Byte) : Bool :=
  op == 0x05 || op == 0x07 ||
    (!op[7] && op != 0x1A && Config.boschNamedOpen (op.setWidth 7))

end Sys2Proof
end

