-- ==== Sys2Proof/Syntax.lean ====
section
/-! DEFINITION. The instructions: one constructor per row of spec/opcode_table.json. The operands of
a constructor are the bytes that its row leaves free, in wire order; sync bytes, fixed command bytes
and the checksum are not operands. -/

namespace Sys2Proof

/-- The rows of the opcode table. -/
inductive Instr where
  /-- INGEST: one byte is offered (R66 of spec/40_dispatch.md). -/
  | ingest (b : Byte)
  /-- RESET: `v` is in_valid and `b` is in_byte, both ignored (R73, R162; log 18). -/
  | reset (v : Bool) (b : Byte)
  /-- PD_STD (R100 of spec/42_pelco_standard.md). -/
  | pdStd (address cmd1 cmd2 data1 data2 : Byte)
  /-- PD_SET_PRESET (R104 of spec/43_pelco_extended.md). -/
  | pdSetPreset (address data2 : Byte)
  /-- PD_CLEAR_PRESET (R105). -/
  | pdClearPreset (address data2 : Byte)
  /-- PD_GOTO_PRESET (R106). -/
  | pdGotoPreset (address data2 : Byte)
  /-- PD_SET_AUX (R107). -/
  | pdSetAux (address data2 : Byte)
  /-- PD_CLEAR_AUX (R108). -/
  | pdClearAux (address data2 : Byte)
  /-- PD_START_REC_TOUR (R109). -/
  | pdStartRecTour (address data2 : Byte)
  /-- PD_STOP_REC_TOUR (R110). -/
  | pdStopRecTour (address data2 : Byte)
  /-- PD_START_TOUR (R111). -/
  | pdStartTour (address data2 : Byte)
  /-- PD_SET_ZOOM_SPEED (R112). -/
  | pdSetZoomSpeed (address data2 : Byte)
  /-- PD_EXT_UNKNOWN (R113). -/
  | pdExtUnknown (address cmd1 cmd2 data1 data2 : Byte)
  /-- PP_STD (R101 of spec/42_pelco_standard.md). -/
  | ppStd (address cmd1 cmd2 data1 data2 : Byte)
  /-- PP_SET_PRESET (R114 of spec/43_pelco_extended.md). -/
  | ppSetPreset (address data2 : Byte)
  /-- PP_CLEAR_PRESET (R115). -/
  | ppClearPreset (address data2 : Byte)
  /-- PP_GOTO_PRESET (R116). -/
  | ppGotoPreset (address data2 : Byte)
  /-- PP_SET_AUX (R117). -/
  | ppSetAux (address data2 : Byte)
  /-- PP_CLEAR_AUX (R118). -/
  | ppClearAux (address data2 : Byte)
  /-- PP_START_REC_TOUR (R119). -/
  | ppStartRecTour (address data2 : Byte)
  /-- PP_STOP_REC_TOUR (R120). -/
  | ppStopRecTour (address data2 : Byte)
  /-- PP_START_TOUR (R121). -/
  | ppStartTour (address data2 : Byte)
  /-- PP_SET_ZOOM_SPEED (R122). -/
  | ppSetZoomSpeed (address data2 : Byte)
  /-- PP_EXT_UNKNOWN (R123). -/
  | ppExtUnknown (address cmd1 cmd2 data1 data2 : Byte)
  /-- BOSCH_SHORT: `payload` is what stands between header and checksum, fewer than three bytes
  (R127 of spec/44_bosch.md). -/
  | boschShort (payload : List Byte)
  /-- BOSCH_VAR_SPEED (R129): `rest` are the data bytes after the third, ignored (R126). -/
  | boschVarSpeed (hi lo d1 d2 d3 : Byte) (rest : List Byte)
  /-- BOSCH_AUX_ON (R132): `d1` holds the function code, `rest` is ignored (R126, R131). -/
  | boschAuxOn (hi lo d1 : Byte) (rest : List Byte)
  /-- BOSCH_AUX_OFF (R133). -/
  | boschAuxOff (hi lo d1 : Byte) (rest : List Byte)
  /-- BOSCH_PRESET_SET (R134). -/
  | boschPresetSet (hi lo d1 : Byte) (rest : List Byte)
  /-- BOSCH_PRESET_SHOT (R135). -/
  | boschPresetShot (hi lo d1 : Byte) (rest : List Byte)
  /-- BOSCH_CANCEL_LATCHING_AUX (R136). -/
  | boschCancelLatchingAux (hi lo d1 : Byte) (rest : List Byte)
  /-- BOSCH_LATCHING_AUX_ON (R137). -/
  | boschLatchingAuxOn (hi lo d1 : Byte) (rest : List Byte)
  /-- BOSCH_LATCHING_AUX_OFF (R138). -/
  | boschLatchingAuxOff (hi lo d1 : Byte) (rest : List Byte)
  /-- BOSCH_AUX_UNKNOWN_FN (R139). -/
  | boschAuxUnknownFn (hi lo d1 : Byte) (rest : List Byte)
  /-- BOSCH_OP (R140, R128). -/
  | boschOp (hi lo op : Byte) (data : List Byte)
  /-- BOSCH_UNKNOWN_OP (R141). -/
  | boschUnknownOp (hi lo op : Byte) (data : List Byte)
deriving DecidableEq, Repr

/-- The "format" column of the opcode table. -/
inductive Format where
  | transaction
  | pelcoD
  | pelcoP
  | bosch
deriving DecidableEq, Repr

/-- One transaction of the interface: the input ports (R26 of spec/10_state.md). -/
structure Transaction where
  rst : Bool
  inValid : Bool
  inByte : Byte
deriving DecidableEq, Repr

/-- The format of an instruction's row. -/
def Instr.format : Instr → Format
  | .ingest _ | .reset _ _ => .transaction
  | .pdStd .. | .pdSetPreset .. | .pdClearPreset .. | .pdGotoPreset .. | .pdSetAux ..
  | .pdClearAux .. | .pdStartRecTour .. | .pdStopRecTour .. | .pdStartTour ..
  | .pdSetZoomSpeed .. | .pdExtUnknown .. => .pelcoD
  | .ppStd .. | .ppSetPreset .. | .ppClearPreset .. | .ppGotoPreset .. | .ppSetAux ..
  | .ppClearAux .. | .ppStartRecTour .. | .ppStopRecTour .. | .ppStartTour ..
  | .ppSetZoomSpeed .. | .ppExtUnknown .. => .pelcoP
  | .boschShort .. | .boschVarSpeed .. | .boschAuxOn .. | .boschAuxOff .. | .boschPresetSet ..
  | .boschPresetShot .. | .boschCancelLatchingAux .. | .boschLatchingAuxOn ..
  | .boschLatchingAuxOff .. | .boschAuxUnknownFn .. | .boschOp .. | .boschUnknownOp .. => .bosch

end Sys2Proof
end

