-- ==== Sys2Proof/WellFormed.lean ====
section
/-! DEFINITION. Which terms of Instr are instructions: the conditions of the opcode table's rows
that a row's operands do not express by their types, under the default tables. -/

namespace Sys2Proof

/-- A Bosch byte after the header has bit 7 clear (R47 of spec/30_encoding.md). -/
def low7 (b : Byte) : Bool := !b[7]

/-- Every byte has bit 7 clear (R47). -/
def allLow7 (bs : List Byte) : Bool := bs.all low7

/-- A well-formed op-code 0x07 row with the function codes `codes`: 7-bit bytes, a length field of at
most 127, and one of the row's codes in `d1` (R46, R47, R131). -/
def auxWf (codes : List (BitVec 4)) (hi lo d1 : Byte) (rest : List Byte) : Bool :=
  low7 hi && low7 lo && low7 d1 && allLow7 rest && decide (rest.length ≤ 122) &&
    codes.contains (auxFnCode 0 d1)

/-- The conditions of the opcode table's rows. -/
def Instr.wf : Instr → Bool
  | .ingest _ => true
  | .reset _ _ => true
  | .pdStd _ _ c2 _ _ => !c2[0]
  | .ppStd _ _ c2 _ _ => !c2[0]
  | .pdSetPreset _ _ | .pdClearPreset _ _ | .pdGotoPreset _ _ | .pdSetAux _ _ | .pdClearAux _ _
  | .pdStartRecTour _ _ | .pdStopRecTour _ _ | .pdStartTour _ _ | .pdSetZoomSpeed _ _ => true
  | .ppSetPreset _ _ | .ppClearPreset _ _ | .ppGotoPreset _ _ | .ppSetAux _ _ | .ppClearAux _ _
  | .ppStartRecTour _ _ | .ppStopRecTour _ _ | .ppStartTour _ _ | .ppSetZoomSpeed _ _ => true
  | .pdExtUnknown _ c1 c2 d1 _ => c2[0] && (extLookup defaultExtLut c1 c2 d1).isNone
  | .ppExtUnknown _ c1 c2 d1 _ => c2[0] && (extLookup defaultExtLut c1 c2 d1).isNone
  | .boschShort payload => decide (payload.length ≤ 2) && allLow7 payload
  | .boschVarSpeed hi lo d1 d2 d3 rest =>
    allLow7 [hi, lo, d1, d2, d3] && allLow7 rest && decide (rest.length ≤ 120)
  | .boschAuxOn hi lo d1 rest => auxWf [1] hi lo d1 rest
  | .boschAuxOff hi lo d1 rest => auxWf [2] hi lo d1 rest
  | .boschPresetSet hi lo d1 rest => auxWf [4] hi lo d1 rest
  | .boschPresetShot hi lo d1 rest => auxWf [5] hi lo d1 rest
  | .boschCancelLatchingAux hi lo d1 rest => auxWf [8] hi lo d1 rest
  | .boschLatchingAuxOn hi lo d1 rest => auxWf [9] hi lo d1 rest
  | .boschLatchingAuxOff hi lo d1 rest => auxWf [10] hi lo d1 rest
  | .boschAuxUnknownFn hi lo d1 rest => auxWf [0, 3, 6, 7, 11, 12, 13, 14, 15] hi lo d1 rest
  | .boschOp hi lo op data =>
    allLow7 [hi, lo, op] && allLow7 data && decide (data.length ≤ 123) && boschNamed op &&
      (op != 0x05 || decide (data.length < 3)) && (op != 0x07 || data.isEmpty)
  | .boschUnknownOp hi lo op data =>
    allLow7 [hi, lo, op] && allLow7 data && decide (data.length ≤ 123) && !boschNamed op

end Sys2Proof
end

