-- ==== Sys2Proof/Decode.lean ====
section
/-! DEFINITION. The checksum validators, the structural conditions and the command decoders as one
total function per lane from window bytes to an instruction, rejecting by name; then the encoder,
and the reading of an opcode-table word. Frame bytes are in wire order (R29). -/

namespace Sys2Proof

/-- Why bytes are not an instruction. On a lane's window `checksum` is a structural match with a
wrong checksum (R88); `length`, `sync` and `endByte` are no structural match (R89). -/
inductive DecodeError where
  /-- Not as many bytes as the frame has: the window is not full, or not at the declared length. -/
  | length
  /-- No sync byte, start byte or header bit at offset 0. -/
  | sync
  /-- No 0xAF at offset 6 of a Pelco P frame. -/
  | endByte
  /-- The checksum is wrong. -/
  | checksum
  /-- A transaction that offers nothing: rst = 0 and in_valid = 0 (R27). -/
  | idle
  /-- A transaction word with a bit above its ten bits. -/
  | transaction
deriving DecidableEq, Repr

/-- What a decoder answers. -/
abbrev Decoded := Except DecodeError Instr

/-! ### Checksums (spec/41_detect_checksum.md) -/

/-- CKSUM_D: the sum of bytes 1 to 5 modulo 256 (R75); with PD_CKSUM_LEGACY, the sum of bytes 0 to 5
modulo 255 (R76). -/
def cksumD (legacy : Bool) (sync address cmd1 cmd2 data1 data2 : Byte) : Byte :=
  if legacy then
    BitVec.ofNat 8 ((sync.toNat + address.toNat + cmd1.toNat + cmd2.toNat + data1.toNat
      + data2.toNat) % 255)
  else
    BitVec.ofNat 8 ((address.toNat + cmd1.toNat + cmd2.toNat + data1.toNat + data2.toNat) % 256)

/-- CKSUM_P: the exclusive or of bytes 0 to 6 (R79; C1 of spec/90_conflicts.md). -/
def cksumP (start address cmd1 cmd2 data1 data2 endByte : Byte) : Byte :=
  start ^^^ address ^^^ cmd1 ^^^ cmd2 ^^^ data1 ^^^ data2 ^^^ endByte

/-- CKSUM_B: the sum of bytes 0 to len-1, header included, masked to 7 bits (R82). -/
def cksumB (body : List Byte) : Byte :=
  BitVec.ofNat 8 ((body.map BitVec.toNat).sum % 128)

/-! ### Command decoders: a validated frame to its instruction -/

/-- PELCO_DECODE for lane D (R94 of spec/42_pelco_standard.md, R102 of spec/43_pelco_extended.md). -/
def classifyD (lut : List ExtRow) (address cmd1 cmd2 data1 data2 : Byte) : Instr :=
  if cmd2[0] then
    match extLookup lut cmd1 cmd2 data1 with
    | some .setPreset => .pdSetPreset address data2
    | some .clearPreset => .pdClearPreset address data2
    | some .gotoPreset => .pdGotoPreset address data2
    | some .setAux => .pdSetAux address data2
    | some .clearAux => .pdClearAux address data2
    | some .startRecordingTour => .pdStartRecTour address data2
    | some .stopRecordingTour => .pdStopRecTour address data2
    | some .startTour => .pdStartTour address data2
    | some .setZoomSpeed => .pdSetZoomSpeed address data2
    | none => .pdExtUnknown address cmd1 cmd2 data1 data2
  else .pdStd address cmd1 cmd2 data1 data2

/-- PELCO_DECODE for lane P (R94, R102). -/
def classifyP (lut : List ExtRow) (address cmd1 cmd2 data1 data2 : Byte) : Instr :=
  if cmd2[0] then
    match extLookup lut cmd1 cmd2 data1 with
    | some .setPreset => .ppSetPreset address data2
    | some .clearPreset => .ppClearPreset address data2
    | some .gotoPreset => .ppGotoPreset address data2
    | some .setAux => .ppSetAux address data2
    | some .clearAux => .ppClearAux address data2
    | some .startRecordingTour => .ppStartRecTour address data2
    | some .stopRecordingTour => .ppStopRecTour address data2
    | some .startTour => .ppStartTour address data2
    | some .setZoomSpeed => .ppSetZoomSpeed address data2
    | none => .ppExtUnknown address cmd1 cmd2 data1 data2
  else .ppStd address cmd1 cmd2 data1 data2

/-- AUX: op-code 0x07 by its function code (R131 of spec/44_bosch.md, R56 of spec/30_encoding.md). -/
def classifyAux (sel : Fin 4) (hi lo d1 : Byte) (rest : List Byte) : Instr :=
  match (auxFnCode sel d1).toNat with
  | 1 => .boschAuxOn hi lo d1 rest
  | 2 => .boschAuxOff hi lo d1 rest
  | 4 => .boschPresetSet hi lo d1 rest
  | 5 => .boschPresetShot hi lo d1 rest
  | 8 => .boschCancelLatchingAux hi lo d1 rest
  | 9 => .boschLatchingAuxOn hi lo d1 rest
  | 10 => .boschLatchingAuxOff hi lo d1 rest
  | _ => .boschAuxUnknownFn hi lo d1 rest

/-- The op-code arms of BOSCH_DECODE, in their order (R124, R128, R140, R141): `data` has len - 4
bytes, so 0x05 is field-decoded from three data bytes on and 0x07 from one on. -/
def classifyOp (sel : Fin 4) (hi lo op : Byte) (data : List Byte) : Instr :=
  if op = 0x05 then
    match data with
    | d1 :: d2 :: d3 :: rest => .boschVarSpeed hi lo d1 d2 d3 rest
    | short => .boschOp hi lo op short
  else if op = 0x07 then
    match data with
    | d1 :: rest => classifyAux sel hi lo d1 rest
    | [] => .boschOp hi lo op []
  else if boschNamed op then .boschOp hi lo op data
  else .boschUnknownOp hi lo op data

/-- BOSCH_DECODE on what stands between header and checksum: len < 4 is a short frame (R124, R127). -/
def classifyB (sel : Fin 4) (payload : List Byte) : Instr :=
  match payload with
  | hi :: lo :: op :: data => classifyOp sel hi lo op data
  | short => .boschShort short

/-! ### Detectors: the structural match, then the checksum, then the decoder -/

/-- DETECT_D on the valid cells of the lane's window (R74, R75, R77). -/
def decodeD (cfg : Config) : List Byte → Decoded
  | [sync, address, cmd1, cmd2, data1, data2, ck] =>
    if sync ≠ Config.syncD then .error .sync
    else if cksumD cfg.pdCksumLegacy sync address cmd1 cmd2 data1 data2 ≠ ck then .error .checksum
    else .ok (classifyD cfg.extLut address cmd1 cmd2 data1 data2)
  | _ => .error .length

/-- DETECT_P on the valid cells of the lane's window (R78, R79, R80). -/
def decodeP (cfg : Config) : List Byte → Decoded
  | [start, address, cmd1, cmd2, data1, data2, endB, ck] =>
    if start ≠ Config.syncP then .error .sync
    else if endB ≠ Config.endP then .error .endByte
    else if cksumP start address cmd1 cmd2 data1 data2 endB ≠ ck then .error .checksum
    else .ok (classifyP cfg.extLut address cmd1 cmd2 data1 data2)
  | _ => .error .length

/-- The declared length of a Bosch frame: bits 6..0 of its header (R46). -/
def declaredLen (header : Byte) : Nat := header.toNat % 128

/-- DETECT_B on the valid cells of the lane's window (R81, R82, R83). The checksum is the last of the
len + 1 bytes; for len = 0 it is the header itself, so 0x80 alone never validates (R84). Bit 7 of
the later bytes is not checked (R93; log 15). -/
def decodeB (cfg : Config) : List Byte → Decoded
  | [] => .error .length
  | header :: tail =>
    if !header[7] then .error .sync
    else if tail.length ≠ declaredLen header then .error .length
    else if cksumB (header :: tail).dropLast ≠ (header :: tail).getLast (by simp) then
      .error .checksum
    else .ok (classifyB cfg.auxFnSel tail.dropLast)

/-- A transaction as the interface reads it: rst wins over in_valid (R27, R66, R73, R162). -/
def decodeTransaction (t : Transaction) : Decoded :=
  if t.rst then .ok (.reset t.inValid t.inByte)
  else if t.inValid then .ok (.ingest t.inByte)
  else .error .idle

/-- The transaction in two bytes: in_byte, then in_valid in bit 0 and rst in bit 1, the ten bits of
the opcode table's pattern counted from bit 0 (log 14). -/
def transactionOf : List Byte → Option Transaction
  | [b, hi] =>
    if hi.toNat < 4 then some ⟨hi[1], hi[0], b⟩ else none
  | _ => none

/-- The decoder of a format, total on any bytes. -/
def decode (cfg : Config) (fmt : Format) (bytes : List Byte) : Decoded :=
  match fmt with
  | .transaction =>
    match transactionOf bytes with
    | some t => decodeTransaction t
    | none => .error .transaction
  | .pelcoD => decodeD cfg bytes
  | .pelcoP => decodeP cfg bytes
  | .bosch => decodeB cfg bytes

/-! ### Encoder -/

/-- A Pelco D frame (R44). -/
def encodeD (address cmd1 cmd2 data1 data2 : Byte) : List Byte :=
  [Config.syncD, address, cmd1, cmd2, data1, data2,
    cksumD false Config.syncD address cmd1 cmd2 data1 data2]

/-- A Pelco P frame (R45). -/
def encodeP (address cmd1 cmd2 data1 data2 : Byte) : List Byte :=
  [Config.syncP, address, cmd1, cmd2, data1, data2, Config.endP,
    cksumP Config.syncP address cmd1 cmd2 data1 data2 Config.endP]

/-- A Bosch frame around its payload: header 0x80 | len with len one more than the payload's length,
and the masked sum (R46). -/
def encodeB (payload : List Byte) : List Byte :=
  let body := (0x80#8 ||| BitVec.ofNat 8 (payload.length + 1)) :: payload
  body ++ [cksumB body]

/-- An extended action on lane D: its row of the default EXT_LUT (R53). -/
def encodeExtD (act : ExtAct) (address data2 : Byte) : List Byte :=
  encodeD address 0x00 (extCmd2 act) 0x00 data2

/-- An extended action on lane P (R53). -/
def encodeExtP (act : ExtAct) (address data2 : Byte) : List Byte :=
  encodeP address 0x00 (extCmd2 act) 0x00 data2

/-- The bytes of an instruction in wire order; of a transaction, its two bytes (`transactionOf`). -/
def encode : Instr → List Byte
  | .ingest b => [b, 0x01]
  | .reset v b => [b, if v then 0x03 else 0x02]
  | .pdStd a c1 c2 d1 d2 => encodeD a c1 c2 d1 d2
  | .pdSetPreset a d2 => encodeExtD .setPreset a d2
  | .pdClearPreset a d2 => encodeExtD .clearPreset a d2
  | .pdGotoPreset a d2 => encodeExtD .gotoPreset a d2
  | .pdSetAux a d2 => encodeExtD .setAux a d2
  | .pdClearAux a d2 => encodeExtD .clearAux a d2
  | .pdStartRecTour a d2 => encodeExtD .startRecordingTour a d2
  | .pdStopRecTour a d2 => encodeExtD .stopRecordingTour a d2
  | .pdStartTour a d2 => encodeExtD .startTour a d2
  | .pdSetZoomSpeed a d2 => encodeExtD .setZoomSpeed a d2
  | .pdExtUnknown a c1 c2 d1 d2 => encodeD a c1 c2 d1 d2
  | .ppStd a c1 c2 d1 d2 => encodeP a c1 c2 d1 d2
  | .ppSetPreset a d2 => encodeExtP .setPreset a d2
  | .ppClearPreset a d2 => encodeExtP .clearPreset a d2
  | .ppGotoPreset a d2 => encodeExtP .gotoPreset a d2
  | .ppSetAux a d2 => encodeExtP .setAux a d2
  | .ppClearAux a d2 => encodeExtP .clearAux a d2
  | .ppStartRecTour a d2 => encodeExtP .startRecordingTour a d2
  | .ppStopRecTour a d2 => encodeExtP .stopRecordingTour a d2
  | .ppStartTour a d2 => encodeExtP .startTour a d2
  | .ppSetZoomSpeed a d2 => encodeExtP .setZoomSpeed a d2
  | .ppExtUnknown a c1 c2 d1 d2 => encodeP a c1 c2 d1 d2
  | .boschShort payload => encodeB payload
  | .boschVarSpeed hi lo d1 d2 d3 rest => encodeB (hi :: lo :: 0x05 :: d1 :: d2 :: d3 :: rest)
  | .boschAuxOn hi lo d1 rest => encodeB (hi :: lo :: 0x07 :: d1 :: rest)
  | .boschAuxOff hi lo d1 rest => encodeB (hi :: lo :: 0x07 :: d1 :: rest)
  | .boschPresetSet hi lo d1 rest => encodeB (hi :: lo :: 0x07 :: d1 :: rest)
  | .boschPresetShot hi lo d1 rest => encodeB (hi :: lo :: 0x07 :: d1 :: rest)
  | .boschCancelLatchingAux hi lo d1 rest => encodeB (hi :: lo :: 0x07 :: d1 :: rest)
  | .boschLatchingAuxOn hi lo d1 rest => encodeB (hi :: lo :: 0x07 :: d1 :: rest)
  | .boschLatchingAuxOff hi lo d1 rest => encodeB (hi :: lo :: 0x07 :: d1 :: rest)
  | .boschAuxUnknownFn hi lo d1 rest => encodeB (hi :: lo :: 0x07 :: d1 :: rest)
  | .boschOp hi lo op data => encodeB (hi :: lo :: op :: data)
  | .boschUnknownOp hi lo op data => encodeB (hi :: lo :: op :: data)

/-! ### Opcode-table words (log 14) -/

/-- The `k` lowest bytes of `w`, the least significant first. -/
def wordBytes : Nat → Nat → List Byte
  | 0, _ => []
  | k + 1, w => BitVec.ofNat 8 w :: wordBytes k (w / 256)

/-- The format of a table word: the table's only rows of more than one and at most two bytes are the
two transactions; seven bytes that begin with the Pelco D sync byte are a Pelco D row, eight that
begin with the Pelco P start byte a Pelco P row, and anything else is a Bosch row (R48). -/
def tableFormat (nbits w : Nat) : Format :=
  if 8 < nbits ∧ nbits ≤ 16 then .transaction
  else if nbits = 56 ∧ BitVec.ofNat 8 w = Config.syncD then .pelcoD
  else if nbits = 64 ∧ BitVec.ofNat 8 w = Config.syncP then .pelcoP
  else .bosch

/-- The bytes of a table word in wire order: two for a transaction, the frame's length for a Pelco
row, and for a Bosch row the len + 1 bytes that its header declares. -/
def tableBytes (nbits w : Nat) : List Byte :=
  match tableFormat nbits w with
  | .transaction => wordBytes 2 w
  | .pelcoD => wordBytes Config.capD w
  | .pelcoP => wordBytes Config.capP w
  | .bosch => wordBytes (declaredLen (BitVec.ofNat 8 w) + 1) w

/-- The instruction the decoder reads from an opcode-table word under the default tables; none where
it refuses. -/
def decodeTableWord (nbits w : Nat) : Option Instr :=
  match decode Config.default (tableFormat nbits w) (tableBytes nbits w) with
  | .ok i => some i
  | .error _ => none

end Sys2Proof
end

