-- ==== Sys2Proof/Machine/State.lean ====
section
/-! DEFINITION. The events a step presents, the machine's state as plain data, the reasons a step can
stop, and the state after reset. -/

namespace Sys2Proof.Machine

/-- The three lanes (R60 of spec/30_encoding.md, R156 of spec/60_exceptions.md). -/
inductive Lane where
  | D
  | P
  | B
deriving DecidableEq, Repr

/-- What an event says (R60 of spec/30_encoding.md). The kind codes 10 to 15 have no constructor (U6
of spec/93_implementation_defined.md). -/
inductive Kind where
  /-- A structural match with a wrong checksum: the diagnostic event (R88, R144). -/
  | mismatch
  /-- A standard PTZ command (R100, R101). -/
  | pelcoStd (pan : Axis) (panArg : Byte) (tilt : Axis) (tiltArg : Byte) (zoom iris focus : Axis)
  /-- A recognized extended command with its argument (R102). -/
  | pelcoExt (action : ExtAct) (arg : Byte)
  /-- An extended command outside EXT_LUT, with its raw command bytes (R113, R123). -/
  | pelcoExtUnknown (cmd1 cmd2 data1 data2 : Byte)
  /-- Bosch op-code 0x05 (R129). -/
  | boschVarSpeed (vs : VarSpeed)
  /-- Bosch op-code 0x07, a function of the table (R131). -/
  | boschAux (fn : AuxFn)
  /-- Bosch op-code 0x07, a function code outside the table (R139). -/
  | boschAuxUnknownFn (fn : BitVec 4)
  /-- A named Bosch op-code, not field-decoded (R140). -/
  | boschOp (op : BitVec 7)
  /-- A Bosch op-code outside BOSCH_NAMED_OPS (R141). -/
  | boschUnknownOp (op : BitVec 7)
  /-- A validated Bosch frame too short for an op-code (R127). -/
  | boschShort
deriving DecidableEq, Repr

/-- One event record (R60): `camera` is absent for a mismatch and a short Bosch frame; `raw` is the
candidate frame. The camera id is 15 bits wide (R9). -/
structure Event where
  lane : Lane
  kind : Kind
  camera : Option (BitVec 15)
  raw : List Byte
deriving DecidableEq, Repr

/-- The machine. `winD`, `winP`, `winB` and `pos` are the spec's state (R15, R16, R21); `input`, `evD`,
`evP`, `evB` are the interface's ports (R26); `cfg` holds the parameters of the instance (R8);
`trace` is the consumer's record (R170). -/
structure State where
  /-- The valid cells of W_D, the oldest first; their number is fill_D (R16, R17; log 2). -/
  winD : List Byte
  /-- The valid cells of W_P; their number is fill_P. -/
  winP : List Byte
  /-- The valid cells of W_B; their number is fill_B. -/
  winB : List Byte
  /-- The bytes ingested since the latest reset (R21). -/
  pos : Nat
  /-- The transactions offered and not yet taken, in stream order (R26, R38; log 3). -/
  input : List Transaction
  /-- ev_valid_D with ev_D: what lane D presented in the latest step (R26, R27; log 1). -/
  evD : Option Event
  /-- ev_valid_P with ev_P. -/
  evP : Option Event
  /-- ev_valid_B with ev_B. -/
  evB : Option Event
  /-- Every event presented so far, the oldest first; no operation reads it (R170; log 12). -/
  trace : List Event
  /-- The parameters; no operation writes them (R23, R42; log 4). -/
  cfg : Config
deriving DecidableEq, Repr

/-- fill_D (R16). -/
abbrev State.fillD (s : State) : Nat := s.winD.length
/-- fill_P (R16). -/
abbrev State.fillP (s : State) : Nat := s.winP.length
/-- fill_B (R16). -/
abbrev State.fillB (s : State) : Nat := s.winB.length

/-- Why a step stops with a fault: it never does. "No condition in this core is fatal" (R142 of
spec/60_exceptions.md), no input causes a fault (spec/93_implementation_defined.md), and the block
has no trap (R148). Nobody raises one, so there is no constructor: safe. -/
inductive Fault where
deriving DecidableEq, Repr

/-- Why a step is refused. -/
inductive Refusal where
  /-- Raised by an arm of exec that has no meaning yet; safe. No arm is such an arm. -/
  | notModelled (mnemonic : String)
deriving DecidableEq, Repr

/-- What a meaning answers. -/
abbrev Result := Host.Outcome State Fault Refusal

/-- The machine right after reset, power-on included (R28, R160, R161): the three fill counters 0, no
event presented. Nothing is offered yet (log 3), the consumer has seen nothing (log 12) and the
parameters have their default values (log 4 to 8). -/
def State.reset : State where
  winD := []
  winP := []
  winB := []
  pos := 0
  input := []
  evD := none
  evP := none
  evB := none
  trace := []
  cfg := Config.default

end Sys2Proof.Machine
end

