-- ==== Sys2Proof/Machine/Operands.lean ====
section
/-! DEFINITION. The fields a decoder computes from a frame's bytes: camera ids, axis states, the
payloads of the event kinds, and the code numbers of the event record. -/

namespace Sys2Proof.Machine

/-- CAMERA_D: the address unchanged (R95 of spec/42_pelco_standard.md). -/
def cameraD (address : Byte) : BitVec 15 := BitVec.ofNat 15 address.toNat

/-- CAMERA_P: the address plus 1, with no wrap (R96). -/
def cameraP (address : Byte) : BitVec 15 := BitVec.ofNat 15 (address.toNat + 1)

/-- CAMERA_B: the two 7-bit address bytes, most significant first, plus 1 (R30, R125). -/
def cameraB (hi lo : Byte) : BitVec 15 :=
  BitVec.ofNat 15 (((hi.toNat <<< 7) ||| lo.toNat) + 1)

/-- The flag at a place of the bit map (R97). -/
def flagAt (cmd1 cmd2 : Byte) (p : FlagPos) : Bool :=
  match p.byte with
  | .cmd1 => cmd1.getLsbD p.bit.val
  | .cmd2 => cmd2.getLsbD p.bit.val

/-- The axis state of a positive and a negative flag (R61). -/
def axisOfFlags (positive negative : Bool) : Axis :=
  match positive, negative with
  | false, false => .stop
  | true, false => .pos
  | false, true => .neg
  | true, true => .ambiguous

/-- AXIS (R97): one axis of a standard command. Both flags set is the ordinary fourth state (R98). -/
def axisState (cmd1 cmd2 : Byte) (a : AxisFlags) : Axis :=
  axisOfFlags (flagAt cmd1 cmd2 a.positive) (flagAt cmd1 cmd2 a.negative)

/-- STD_X under a bit map (R100, R101): pan and tilt carry data1 and data2 in every state (R99). -/
def stdKind (map : BitMap) (cmd1 cmd2 data1 data2 : Byte) : Kind :=
  .pelcoStd (axisState cmd1 cmd2 map.pan) data1 (axisState cmd1 cmd2 map.tilt) data2
    (axisState cmd1 cmd2 map.zoom) (axisState cmd1 cmd2 map.iris) (axisState cmd1 cmd2 map.focus)

/-- The 7-bit value of a Bosch byte (R47). -/
def u7 (b : Byte) : BitVec 7 := b.setWidth 7

/-- The payload of an op-code 0x05 frame (R129). -/
def varSpeedKind (d1 d2 d3 : Byte) : Kind :=
  .boschVarSpeed (Config.boschVsDecode (u7 d1) (u7 d2) (u7 d3))

/-! ### Code numbers (R60, R61) -/

/-- Lane codes: D = 0, P = 1, B = 2 (R60, R156). -/
def laneCode : Lane → Nat
  | .D => 0
  | .P => 1
  | .B => 2

/-- Axis codes (R60, R61). -/
def axisCode : Axis → BitVec 2
  | .stop => 0
  | .pos => 1
  | .neg => 2
  | .ambiguous => 3

/-- Codes of the extended actions (R53, R60). -/
def extActCode : ExtAct → Nat
  | .setPreset => 0
  | .clearPreset => 1
  | .gotoPreset => 2
  | .setAux => 3
  | .clearAux => 4
  | .startRecordingTour => 5
  | .stopRecordingTour => 6
  | .startTour => 7
  | .setZoomSpeed => 8

/-- The function code of each named function (R56, R60). -/
def auxFnNumber : AuxFn → BitVec 4
  | .auxOn => 1
  | .auxOff => 2
  | .presetSet => 4
  | .presetShot => 5
  | .cancelLatchingAux => 8
  | .latchingAuxOn => 9
  | .latchingAuxOff => 10

/-- Kind codes (R60). -/
def kindCode : Kind → BitVec 4
  | .mismatch => 0
  | .pelcoStd .. => 1
  | .pelcoExt .. => 2
  | .pelcoExtUnknown .. => 3
  | .boschVarSpeed .. => 4
  | .boschAux .. => 5
  | .boschAuxUnknownFn .. => 6
  | .boschOp .. => 7
  | .boschUnknownOp .. => 8
  | .boschShort => 9

end Sys2Proof.Machine
end

