-- ==== Sys2Proof/Machine/Ops.lean ====
section
/-! DEFINITION. The shared operations: the window update of each lane, presenting an event, accepting
a validated frame, and reporting a checksum mismatch. -/

namespace Sys2Proof.Machine

/-- Run `k` on the next state; a stop stays a stop. -/
def andThen (r : Result) (k : State → Result) : Result :=
  match r with
  | .next s => k s
  | .fault f => .fault f
  | .refused e => .refused e

/-- The window update of R69 and R70 (spec/40_dispatch.md) for capacity `cap`: append, evicting the
oldest cell if the window is full. -/
def pushWindow (cap : Nat) (w : List Byte) (b : Byte) : List Byte :=
  if w.length < cap then w ++ [b] else w.drop 1 ++ [b]

/-- The Bosch window update (R71): a byte with bit 7 set empties the window before it is appended. -/
def pushWindowB (w : List Byte) (b : Byte) : List Byte :=
  pushWindow Config.capB (if b[7] then [] else w) b

/-- PUSH_D (R69). -/
def State.pushD (s : State) (b : Byte) : State := { s with winD := pushWindow Config.capD s.winD b }

/-- PUSH_P (R70). -/
def State.pushP (s : State) (b : Byte) : State := { s with winP := pushWindow Config.capP s.winP b }

/-- PUSH_B (R71). -/
def State.pushB (s : State) (b : Byte) : State := { s with winB := pushWindowB s.winB b }

/-- No lane presents an event: every ev_valid_X is 0 (R27). -/
def State.quiet (s : State) : State := { s with evD := none, evP := none, evB := none }

/-- The first half of INGEST (R65, R66, R67): the byte goes into all three windows. The ports are
clear, and the byte is counted (R21). -/
def State.take (s : State) (b : Byte) : State :=
  { ((s.quiet.pushD b).pushP b).pushB b with pos := s.pos + 1 }

/-- emit (R13 of spec/00_scope.md): the event stands on its lane's port (R27) and the consumer takes it
(R166 of spec/70_reset_and_hazards.md). -/
def State.present (s : State) (e : Event) : State :=
  match e.lane with
  | .D => { s with evD := some e, trace := s.trace ++ [e] }
  | .P => { s with evP := some e, trace := s.trace ++ [e] }
  | .B => { s with evB := some e, trace := s.trace ++ [e] }

/-- The cells of a lane's window (R85: at a structural match they are the candidate frame). -/
def State.window (s : State) : Lane → List Byte
  | .D => s.winD
  | .P => s.winP
  | .B => s.winB

/-- The diagnostic report of a checksum mismatch (R88, R144): no window and no counter changes. -/
def State.reportMismatch (s : State) (l : Lane) : State :=
  s.present { lane := l, kind := .mismatch, camera := none, raw := s.window l }

/-- Lane D accepts a frame: its event is presented and fill_D becomes 0 (R77, R86). -/
def State.acceptD (s : State) (k : Kind) (camera : BitVec 15) : State :=
  { s.present { lane := .D, kind := k, camera := some camera, raw := s.winD } with winD := [] }

/-- Lane P accepts a frame: its event is presented and fill_P becomes 0 (R80, R86). -/
def State.acceptP (s : State) (k : Kind) (camera : BitVec 15) : State :=
  { s.present { lane := .P, kind := k, camera := some camera, raw := s.winP } with winP := [] }

/-- Lane B accepts a frame: its event is presented and its window stays (R83, R87). -/
def State.acceptB (s : State) (k : Kind) (camera : Option (BitVec 15)) : State :=
  s.present { lane := .B, kind := k, camera := camera, raw := s.winB }

end Sys2Proof.Machine
end

