-- ==== Sys2Proof/Machine/Bosch.lean ====
section
/-! DEFINITION. The Bosch BiPhase commands (spec/44_bosch.md). Bytes that no field reads are operands
of the instruction and stay visible in the event's raw bytes only (R126, R131). -/

namespace Sys2Proof.Machine

/-- BOSCH_SHORT (R127): no camera id. -/
def execBoschShort (_payload : List Byte) (s : State) : Result :=
  .next (s.acceptB .boschShort none)

/-- BOSCH_VAR_SPEED (R129): the fields are the OPEN function of the three data bytes (log 10). -/
def execBoschVarSpeed (hi lo d1 d2 d3 : Byte) (_rest : List Byte) (s : State) : Result :=
  .next (s.acceptB (varSpeedKind d1 d2 d3) (some (cameraB hi lo)))

/-- BOSCH_AUX_ON (R132). -/
def execBoschAuxOn (hi lo _d1 : Byte) (_rest : List Byte) (s : State) : Result :=
  .next (s.acceptB (.boschAux .auxOn) (some (cameraB hi lo)))

/-- BOSCH_AUX_OFF (R133). -/
def execBoschAuxOff (hi lo _d1 : Byte) (_rest : List Byte) (s : State) : Result :=
  .next (s.acceptB (.boschAux .auxOff) (some (cameraB hi lo)))

/-- BOSCH_PRESET_SET (R134). -/
def execBoschPresetSet (hi lo _d1 : Byte) (_rest : List Byte) (s : State) : Result :=
  .next (s.acceptB (.boschAux .presetSet) (some (cameraB hi lo)))

/-- BOSCH_PRESET_SHOT (R135). -/
def execBoschPresetShot (hi lo _d1 : Byte) (_rest : List Byte) (s : State) : Result :=
  .next (s.acceptB (.boschAux .presetShot) (some (cameraB hi lo)))

/-- BOSCH_CANCEL_LATCHING_AUX (R136). -/
def execBoschCancelLatchingAux (hi lo _d1 : Byte) (_rest : List Byte) (s : State) : Result :=
  .next (s.acceptB (.boschAux .cancelLatchingAux) (some (cameraB hi lo)))

/-- BOSCH_LATCHING_AUX_ON (R137). -/
def execBoschLatchingAuxOn (hi lo _d1 : Byte) (_rest : List Byte) (s : State) : Result :=
  .next (s.acceptB (.boschAux .latchingAuxOn) (some (cameraB hi lo)))

/-- BOSCH_LATCHING_AUX_OFF (R138). -/
def execBoschLatchingAuxOff (hi lo _d1 : Byte) (_rest : List Byte) (s : State) : Result :=
  .next (s.acceptB (.boschAux .latchingAuxOff) (some (cameraB hi lo)))

/-- BOSCH_AUX_UNKNOWN_FN (R139): the event carries the function code, read where the instance has it
(R57). -/
def execBoschAuxUnknownFn (hi lo d1 : Byte) (_rest : List Byte) (s : State) : Result :=
  .next (s.acceptB (.boschAuxUnknownFn (auxFnCode s.cfg.auxFnSel d1)) (some (cameraB hi lo)))

/-- BOSCH_OP (R140, R128). -/
def execBoschOp (hi lo op : Byte) (_data : List Byte) (s : State) : Result :=
  .next (s.acceptB (.boschOp (u7 op)) (some (cameraB hi lo)))

/-- BOSCH_UNKNOWN_OP (R141). -/
def execBoschUnknownOp (hi lo op : Byte) (_data : List Byte) (s : State) : Result :=
  .next (s.acceptB (.boschUnknownOp (u7 op)) (some (cameraB hi lo)))

end Sys2Proof.Machine
end

