-- ==== Sys2Proof/Machine/Flags.lean ====
section
/-! DEFINITION. The combinational outcomes of a step (R22 of spec/10_state.md): the block stores no
flag, and these exist only within the step that computes them. -/

namespace Sys2Proof.Machine

/-- match_X: a structural match with a correct checksum (R22). -/
def matchFlag : Decoded → Bool
  | .ok _ => true
  | .error _ => false

/-- mismatch_X: a structural match with a wrong checksum (R22, R88). -/
def mismatchFlag : Decoded → Bool
  | .error .checksum => true
  | _ => false

/-- What a lane's decoder makes of its window. -/
def State.decodeLane (s : State) : Lane → Decoded
  | .D => decodeD s.cfg s.winD
  | .P => decodeP s.cfg s.winP
  | .B => decodeB s.cfg s.winB

end Sys2Proof.Machine
end

