-- ==== Sys2Proof/Machine/PelcoExtended.lean ====
section
/-! DEFINITION. The extended commands of both Pelco protocols (spec/43_pelco_extended.md). The argument
is data2, unchanged and not range-checked (R103). -/

namespace Sys2Proof.Machine

/-- PD_SET_PRESET (R104). -/
def execPdSetPreset (address data2 : Byte) (s : State) : Result :=
  .next (s.acceptD (.pelcoExt .setPreset data2) (cameraD address))

/-- PD_CLEAR_PRESET (R105). -/
def execPdClearPreset (address data2 : Byte) (s : State) : Result :=
  .next (s.acceptD (.pelcoExt .clearPreset data2) (cameraD address))

/-- PD_GOTO_PRESET (R106). -/
def execPdGotoPreset (address data2 : Byte) (s : State) : Result :=
  .next (s.acceptD (.pelcoExt .gotoPreset data2) (cameraD address))

/-- PD_SET_AUX (R107). -/
def execPdSetAux (address data2 : Byte) (s : State) : Result :=
  .next (s.acceptD (.pelcoExt .setAux data2) (cameraD address))

/-- PD_CLEAR_AUX (R108). -/
def execPdClearAux (address data2 : Byte) (s : State) : Result :=
  .next (s.acceptD (.pelcoExt .clearAux data2) (cameraD address))

/-- PD_START_REC_TOUR (R109). -/
def execPdStartRecTour (address data2 : Byte) (s : State) : Result :=
  .next (s.acceptD (.pelcoExt .startRecordingTour data2) (cameraD address))

/-- PD_STOP_REC_TOUR (R110). -/
def execPdStopRecTour (address data2 : Byte) (s : State) : Result :=
  .next (s.acceptD (.pelcoExt .stopRecordingTour data2) (cameraD address))

/-- PD_START_TOUR (R111). -/
def execPdStartTour (address data2 : Byte) (s : State) : Result :=
  .next (s.acceptD (.pelcoExt .startTour data2) (cameraD address))

/-- PD_SET_ZOOM_SPEED (R112). -/
def execPdSetZoomSpeed (address data2 : Byte) (s : State) : Result :=
  .next (s.acceptD (.pelcoExt .setZoomSpeed data2) (cameraD address))

/-- PD_EXT_UNKNOWN (R113): all four command and data bytes are carried. -/
def execPdExtUnknown (address cmd1 cmd2 data1 data2 : Byte) (s : State) : Result :=
  .next (s.acceptD (.pelcoExtUnknown cmd1 cmd2 data1 data2) (cameraD address))

/-- PP_SET_PRESET (R114). -/
def execPpSetPreset (address data2 : Byte) (s : State) : Result :=
  .next (s.acceptP (.pelcoExt .setPreset data2) (cameraP address))

/-- PP_CLEAR_PRESET (R115). -/
def execPpClearPreset (address data2 : Byte) (s : State) : Result :=
  .next (s.acceptP (.pelcoExt .clearPreset data2) (cameraP address))

/-- PP_GOTO_PRESET (R116). -/
def execPpGotoPreset (address data2 : Byte) (s : State) : Result :=
  .next (s.acceptP (.pelcoExt .gotoPreset data2) (cameraP address))

/-- PP_SET_AUX (R117). -/
def execPpSetAux (address data2 : Byte) (s : State) : Result :=
  .next (s.acceptP (.pelcoExt .setAux data2) (cameraP address))

/-- PP_CLEAR_AUX (R118). -/
def execPpClearAux (address data2 : Byte) (s : State) : Result :=
  .next (s.acceptP (.pelcoExt .clearAux data2) (cameraP address))

/-- PP_START_REC_TOUR (R119). -/
def execPpStartRecTour (address data2 : Byte) (s : State) : Result :=
  .next (s.acceptP (.pelcoExt .startRecordingTour data2) (cameraP address))

/-- PP_STOP_REC_TOUR (R120). -/
def execPpStopRecTour (address data2 : Byte) (s : State) : Result :=
  .next (s.acceptP (.pelcoExt .stopRecordingTour data2) (cameraP address))

/-- PP_START_TOUR (R121). -/
def execPpStartTour (address data2 : Byte) (s : State) : Result :=
  .next (s.acceptP (.pelcoExt .startTour data2) (cameraP address))

/-- PP_SET_ZOOM_SPEED (R122). -/
def execPpSetZoomSpeed (address data2 : Byte) (s : State) : Result :=
  .next (s.acceptP (.pelcoExt .setZoomSpeed data2) (cameraP address))

/-- PP_EXT_UNKNOWN (R123): all four command and data bytes are carried. -/
def execPpExtUnknown (address cmd1 cmd2 data1 data2 : Byte) (s : State) : Result :=
  .next (s.acceptP (.pelcoExtUnknown cmd1 cmd2 data1 data2) (cameraP address))

end Sys2Proof.Machine
end

