-- ==== Sys2Proof/Machine/PelcoStandard.lean ====
section
/-! DEFINITION. The standard PTZ command of each Pelco protocol (spec/42_pelco_standard.md). -/

namespace Sys2Proof.Machine

/-- PD_STD (R100). -/
def execPdStd (address cmd1 cmd2 data1 data2 : Byte) (s : State) : Result :=
  .next (s.acceptD (stdKind s.cfg.pdBitmap cmd1 cmd2 data1 data2) (cameraD address))

/-- PP_STD (R101). -/
def execPpStd (address cmd1 cmd2 data1 data2 : Byte) (s : State) : Result :=
  .next (s.acceptP (stdKind s.cfg.ppBitmap cmd1 cmd2 data1 data2) (cameraP address))

end Sys2Proof.Machine
end

