-- ==== Sys2Proof/Machine/Dispatcher.lean ====
section
/-! DEFINITION. The frame detectors (spec/41_detect_checksum.md) and the two transactions (R66, R73 of
spec/40_dispatch.md). A detector reads its lane's window with the lane's decoder and runs the meaning
of the very instruction the decoder read. -/

namespace Sys2Proof.Machine

/-- The meaning of a frame command that a lane decoded. No lane decodes a transaction out of its
window; the two arms change nothing. -/
def runFrame (i : Instr) (s : State) : Result :=
  match i with
  | .ingest _ => .next s
  | .reset _ _ => .next s
  | .pdStd a c1 c2 d1 d2 => execPdStd a c1 c2 d1 d2 s
  | .pdSetPreset a d2 => execPdSetPreset a d2 s
  | .pdClearPreset a d2 => execPdClearPreset a d2 s
  | .pdGotoPreset a d2 => execPdGotoPreset a d2 s
  | .pdSetAux a d2 => execPdSetAux a d2 s
  | .pdClearAux a d2 => execPdClearAux a d2 s
  | .pdStartRecTour a d2 => execPdStartRecTour a d2 s
  | .pdStopRecTour a d2 => execPdStopRecTour a d2 s
  | .pdStartTour a d2 => execPdStartTour a d2 s
  | .pdSetZoomSpeed a d2 => execPdSetZoomSpeed a d2 s
  | .pdExtUnknown a c1 c2 d1 d2 => execPdExtUnknown a c1 c2 d1 d2 s
  | .ppStd a c1 c2 d1 d2 => execPpStd a c1 c2 d1 d2 s
  | .ppSetPreset a d2 => execPpSetPreset a d2 s
  | .ppClearPreset a d2 => execPpClearPreset a d2 s
  | .ppGotoPreset a d2 => execPpGotoPreset a d2 s
  | .ppSetAux a d2 => execPpSetAux a d2 s
  | .ppClearAux a d2 => execPpClearAux a d2 s
  | .ppStartRecTour a d2 => execPpStartRecTour a d2 s
  | .ppStopRecTour a d2 => execPpStopRecTour a d2 s
  | .ppStartTour a d2 => execPpStartTour a d2 s
  | .ppSetZoomSpeed a d2 => execPpSetZoomSpeed a d2 s
  | .ppExtUnknown a c1 c2 d1 d2 => execPpExtUnknown a c1 c2 d1 d2 s
  | .boschShort payload => execBoschShort payload s
  | .boschVarSpeed hi lo d1 d2 d3 rest => execBoschVarSpeed hi lo d1 d2 d3 rest s
  | .boschAuxOn hi lo d1 rest => execBoschAuxOn hi lo d1 rest s
  | .boschAuxOff hi lo d1 rest => execBoschAuxOff hi lo d1 rest s
  | .boschPresetSet hi lo d1 rest => execBoschPresetSet hi lo d1 rest s
  | .boschPresetShot hi lo d1 rest => execBoschPresetShot hi lo d1 rest s
  | .boschCancelLatchingAux hi lo d1 rest => execBoschCancelLatchingAux hi lo d1 rest s
  | .boschLatchingAuxOn hi lo d1 rest => execBoschLatchingAuxOn hi lo d1 rest s
  | .boschLatchingAuxOff hi lo d1 rest => execBoschLatchingAuxOff hi lo d1 rest s
  | .boschAuxUnknownFn hi lo d1 rest => execBoschAuxUnknownFn hi lo d1 rest s
  | .boschOp hi lo op data => execBoschOp hi lo op data s
  | .boschUnknownOp hi lo op data => execBoschUnknownOp hi lo op data s

/-- DETECT_X (R77, R80, R83): a decoded frame is run, a wrong checksum is reported (R88), and without a
structural match nothing happens (R89). -/
def detect (l : Lane) (s : State) : Result :=
  match s.decodeLane l with
  | .ok i => runFrame i s
  | .error .checksum => .next (s.reportMismatch l)
  | .error _ => .next s

/-- The second half of INGEST: the three detectors in lane order (R66, R67). -/
def detectAll (s : State) : Result :=
  andThen (andThen (detect .D s) (detect .P)) (detect .B)

/-- INGEST (R66): the byte goes into the three windows, then the three detectors run. -/
def execIngest (b : Byte) (s : State) : Result :=
  detectAll (s.take b)

/-- RESET (R73): every partial frame is discarded without an event, and what in_valid and in_byte say
does not matter (R162, R163). The parameters and the consumer's record stay. -/
def execReset (_v : Bool) (_b : Byte) (s : State) : Result :=
  .next { s.quiet with winD := [], winP := [], winB := [], pos := 0 }

end Sys2Proof.Machine
end

