-- ==== Sys2Proof/Machine/Dispatch.lean ====
section
/-! DEFINITION. One arm per constructor of Instr: each row of spec/opcode_table.json and its meaning. -/

namespace Sys2Proof.Machine

/-- The meaning of an instruction. -/
def exec (i : Instr) (s : State) : Host.Outcome State Fault Refusal :=
  match i with
  | .ingest b => Sys2Proof.Machine.execIngest b s
  | .reset v b => Sys2Proof.Machine.execReset v b s
  | .pdStd a c1 c2 d1 d2 => Sys2Proof.Machine.execPdStd a c1 c2 d1 d2 s
  | .pdSetPreset a d2 => Sys2Proof.Machine.execPdSetPreset a d2 s
  | .pdClearPreset a d2 => Sys2Proof.Machine.execPdClearPreset a d2 s
  | .pdGotoPreset a d2 => Sys2Proof.Machine.execPdGotoPreset a d2 s
  | .pdSetAux a d2 => Sys2Proof.Machine.execPdSetAux a d2 s
  | .pdClearAux a d2 => Sys2Proof.Machine.execPdClearAux a d2 s
  | .pdStartRecTour a d2 => Sys2Proof.Machine.execPdStartRecTour a d2 s
  | .pdStopRecTour a d2 => Sys2Proof.Machine.execPdStopRecTour a d2 s
  | .pdStartTour a d2 => Sys2Proof.Machine.execPdStartTour a d2 s
  | .pdSetZoomSpeed a d2 => Sys2Proof.Machine.execPdSetZoomSpeed a d2 s
  | .pdExtUnknown a c1 c2 d1 d2 => Sys2Proof.Machine.execPdExtUnknown a c1 c2 d1 d2 s
  | .ppStd a c1 c2 d1 d2 => Sys2Proof.Machine.execPpStd a c1 c2 d1 d2 s
  | .ppSetPreset a d2 => Sys2Proof.Machine.execPpSetPreset a d2 s
  | .ppClearPreset a d2 => Sys2Proof.Machine.execPpClearPreset a d2 s
  | .ppGotoPreset a d2 => Sys2Proof.Machine.execPpGotoPreset a d2 s
  | .ppSetAux a d2 => Sys2Proof.Machine.execPpSetAux a d2 s
  | .ppClearAux a d2 => Sys2Proof.Machine.execPpClearAux a d2 s
  | .ppStartRecTour a d2 => Sys2Proof.Machine.execPpStartRecTour a d2 s
  | .ppStopRecTour a d2 => Sys2Proof.Machine.execPpStopRecTour a d2 s
  | .ppStartTour a d2 => Sys2Proof.Machine.execPpStartTour a d2 s
  | .ppSetZoomSpeed a d2 => Sys2Proof.Machine.execPpSetZoomSpeed a d2 s
  | .ppExtUnknown a c1 c2 d1 d2 => Sys2Proof.Machine.execPpExtUnknown a c1 c2 d1 d2 s
  | .boschShort payload => Sys2Proof.Machine.execBoschShort payload s
  | .boschVarSpeed hi lo d1 d2 d3 rest => Sys2Proof.Machine.execBoschVarSpeed hi lo d1 d2 d3 rest s
  | .boschAuxOn hi lo d1 rest => Sys2Proof.Machine.execBoschAuxOn hi lo d1 rest s
  | .boschAuxOff hi lo d1 rest => Sys2Proof.Machine.execBoschAuxOff hi lo d1 rest s
  | .boschPresetSet hi lo d1 rest => Sys2Proof.Machine.execBoschPresetSet hi lo d1 rest s
  | .boschPresetShot hi lo d1 rest => Sys2Proof.Machine.execBoschPresetShot hi lo d1 rest s
  | .boschCancelLatchingAux hi lo d1 rest => Sys2Proof.Machine.execBoschCancelLatchingAux hi lo d1 rest s
  | .boschLatchingAuxOn hi lo d1 rest => Sys2Proof.Machine.execBoschLatchingAuxOn hi lo d1 rest s
  | .boschLatchingAuxOff hi lo d1 rest => Sys2Proof.Machine.execBoschLatchingAuxOff hi lo d1 rest s
  | .boschAuxUnknownFn hi lo d1 rest => Sys2Proof.Machine.execBoschAuxUnknownFn hi lo d1 rest s
  | .boschOp hi lo op data => Sys2Proof.Machine.execBoschOp hi lo op data s
  | .boschUnknownOp hi lo op data => Sys2Proof.Machine.execBoschUnknownOp hi lo op data s

end Sys2Proof.Machine
end

