-- ==== Sys2Proof/Machine/Fetch.lean ====
section
/-! DEFINITION. Where the next instruction comes from: the transaction the host offers, and placing an
opcode-table word so that the next step runs it. -/

namespace Sys2Proof.Machine

/-- The transaction that offers the byte `b` (R27). -/
def offer (b : Byte) : Transaction := { rst := false, inValid := true, inByte := b }

/-- Take the next transaction from the input, if one is offered. -/
def State.fetch (s : State) : Option (Transaction × State) :=
  match s.input with
  | [] => none
  | t :: rest => some (t, { s with input := rest })

/-- Put the bytes of an instruction where the next step reads them (log 14): a transaction on the
input ports; a frame command in its lane's window but for the last byte, which is offered, since a
frame is run by the step that takes its last byte (R77, R80, R83). -/
def State.place (s : State) (fmt : Format) (bytes : List Byte) : State :=
  match fmt, bytes.getLast? with
  | .transaction, _ => { s with input := (transactionOf bytes).toList ++ s.input }
  | _, none => s
  | .pelcoD, some b => { s with winD := bytes.dropLast, input := offer b :: s.input }
  | .pelcoP, some b => { s with winP := bytes.dropLast, input := offer b :: s.input }
  | .bosch, some b => { s with winB := bytes.dropLast, input := offer b :: s.input }

end Sys2Proof.Machine
end

