-- ==== Sys2Proof/Machine/Step.lean ====
section
/-! DEFINITION. One step is one transaction (R14, R27). -/

namespace Sys2Proof.Machine

/-- The next transaction is taken and its instruction runs. With nothing offered, and in a transaction
with rst = 0 and in_valid = 0, no state changes and no event is presented (R27, R43, R159). -/
def step (s : State) : Host.Outcome State Fault Refusal :=
  match s.fetch with
  | none => .next s.quiet
  | some (t, s') =>
    match decodeTransaction t with
    | .ok i => exec i s'
    | .error _ => .next s'.quiet

/-- `s` with the instruction of an opcode-table word placed where the next step runs it (log 14). -/
def State.withFetchWord (s : State) (nbits w : Nat) : State :=
  s.place (tableFormat nbits w) (tableBytes nbits w)

end Sys2Proof.Machine
end

