-- ==== Sys2Proof/Machine/Render.lean ====
section
/-! DEFINITION. The hex part of the textual rendering of an event's raw frame, the only part of it the
spec fixes (R62 of spec/30_encoding.md; C7 of spec/90_conflicts.md). No step uses it (log 17). -/

namespace Sys2Proof.Machine

/-- One lowercase hex digit (R62, C7). -/
def hexDigit (n : Nat) : Char :=
  if n < 10 then Char.ofNat (48 + n) else Char.ofNat (87 + n)

/-- One byte: two digits, zero-padded, in brackets (R62). -/
def renderByte (b : Byte) : List Char :=
  ['[', hexDigit (b.toNat / 16), hexDigit (b.toNat % 16), ']']

/-- A raw frame: its bytes concatenated with no separator (R62). -/
def renderRaw (raw : List Byte) : List Char := raw.flatMap renderByte

end Sys2Proof.Machine
end

