-- ==== Sys2Proof/Safety.lean ====
section
/-! DEFINITION. What a sound state, event and run are, in the terms statements use. -/

namespace Sys2Proof.Machine

/-- A window of lane B: only its first cell may have bit 7 set, because a later byte with bit 7 set
re-anchors the lane (R47 of spec/30_encoding.md, R71 of spec/40_dispatch.md). -/
def tailLow (w : List Byte) : Bool := allLow7 w.tail

/-- The windows are within their capacities (R16 of spec/10_state.md: the fill count never exceeds the
capacity) and lane B's has its form (R47). -/
def State.wf (s : State) : Bool :=
  decide (s.fillD ≤ Config.capD) && decide (s.fillP ≤ Config.capP) &&
    decide (s.fillB ≤ Config.capB) && tailLow s.winB

/-- The kinds each lane may present (R60 of spec/30_encoding.md). -/
def kindOfLane : Lane → Kind → Bool
  | _, .mismatch => true
  | .D, .pelcoStd .. | .D, .pelcoExt .. | .D, .pelcoExtUnknown .. => true
  | .P, .pelcoStd .. | .P, .pelcoExt .. | .P, .pelcoExtUnknown .. => true
  | .B, .boschVarSpeed .. | .B, .boschAux .. | .B, .boschAuxUnknownFn .. | .B, .boschOp ..
  | .B, .boschUnknownOp .. | .B, .boschShort => true
  | _, _ => false

/-- The kinds that carry no camera id (R60). -/
def noCamera : Kind → Bool
  | .mismatch => true
  | .boschShort => true
  | _ => false

/-- An event record as R60 describes it: a kind of its lane, a camera id exactly where the kind has
one, and 1 to 128 raw bytes. -/
def Event.wf (e : Event) : Bool :=
  kindOfLane e.lane e.kind && (e.camera.isNone == noCamera e.kind) &&
    decide (1 ≤ e.raw.length) && decide (e.raw.length ≤ 128)

/-- A port presents nothing, or an event of its own lane. -/
def portOk (l : Lane) : Option Event → Bool
  | none => true
  | some e => decide (e.lane = l) && e.wf

/-- What the three ports present, in lane order (R40, R151). -/
def State.presented (s : State) : List Event :=
  s.evD.toList ++ s.evP.toList ++ s.evB.toList

/-- A sound state: its windows have their form, and every event it holds is an event record. -/
def State.sound (s : State) : Bool :=
  s.wf && portOk .D s.evD && portOk .P s.evP && portOk .B s.evB && s.trace.all Event.wf

/-- The port of a lane (R26). -/
def State.port (s : State) : Lane → Option Event
  | .D => s.evD
  | .P => s.evP
  | .B => s.evB

/-- The lane detected a frame in the latest step: its port presents an event that is no mismatch. -/
def State.succeeded (s : State) (l : Lane) : Prop :=
  ∃ e, s.port l = some e ∧ e.kind ≠ .mismatch

/-- Nothing changed from `s` to `t` but lane `l`'s window and port and the consumer's record. -/
def sameButLane (l : Lane) (s t : State) : Prop :=
  (∀ m, m ≠ l → t.window m = s.window m ∧ t.port m = s.port m) ∧
    t.pos = s.pos ∧ t.input = s.input ∧ t.cfg = s.cfg

/-- From `s` to `t` lane `l` accepted the frame in its window with the event `e` and did nothing else:
the event carries the window, stands on the lane's port and is recorded; the windows of lanes D and P
are emptied, lane B's is kept (R60, R86, R87). -/
def accepts (l : Lane) (s t : State) (e : Event) : Prop :=
  e.lane = l ∧ e.raw = s.window l ∧ t.port l = some e ∧ t.trace = s.trace ++ [e] ∧
    t.window l = (if l = .B then s.window l else []) ∧ sameButLane l s t

/-- What a step leaves of lane `l` when the lane's window, the step's byte included, is `w` and its
decoder answers `r` (R77, R80, R83, R86 to R89): an accepted frame, a reported mismatch, or silence. -/
def laneOutcome (l : Lane) (r : Decoded) (w : List Byte) (t : State) : Prop :=
  match r with
  | .ok _ => t.window l = (if l = .B then w else []) ∧
      ∃ e, t.port l = some e ∧ e.lane = l ∧ e.kind ≠ .mismatch ∧ e.raw = w
  | .error .checksum => t.window l = w ∧ t.port l = some ⟨l, .mismatch, none, w⟩
  | .error _ => t.window l = w ∧ t.port l = none

/-- A run of `n` steps; the machine never stops, so a run has a last state (R142). A step that stopped
would leave the state where it stopped. -/
def runSteps : Nat → State → State
  | 0, s => s
  | n + 1, s =>
    match step s with
    | .next t => runSteps n t
    | _ => s

/-- The transactions that deliver the bytes `bs` (R72: a chunk is its bytes, one transaction each). -/
def offers (bs : List Byte) : List Transaction := bs.map offer

/-- The bytes that a list of transactions makes the block take: the offered bytes of the transactions
with rst = 0 and in_valid = 1 (R27, R162). -/
def takenBytes (xs : List Transaction) : List Byte :=
  xs.filterMap fun x => if x.rst then none else if x.inValid then some x.inByte else none

end Sys2Proof.Machine
end

