-- ==== Sys2Proof/Certificates/Slice0/Obligations.lean ====
section
/-! DEFINITION. The statements for the provers, each a Prop. A frame byte `f[i]` of the spec is
`w.getD i 0` of the list `w` of the frame's bytes. -/

open Sys2Proof Sys2Proof.Machine

/-! ### What each instruction does, and that it completes -/

/-- PD_STD (R100): from every state the command completes with one lane D event: five axis states
under the instance's bit map, the arguments data1 and data2, and the address as camera id; the window
is emptied and nothing else changes. -/
def Obligations.PelcoDStandardCommandEvent : Prop :=
  ∀ (s : State) (a c1 c2 d1 d2 : Byte), ∃ t e, exec (.pdStd a c1 c2 d1 d2) s = .next t ∧
    accepts .D s t e ∧
    e.kind = .pelcoStd (axisState c1 c2 s.cfg.pdBitmap.pan) d1 (axisState c1 c2 s.cfg.pdBitmap.tilt) d2
      (axisState c1 c2 s.cfg.pdBitmap.zoom) (axisState c1 c2 s.cfg.pdBitmap.iris)
      (axisState c1 c2 s.cfg.pdBitmap.focus) ∧
    e.camera.map BitVec.toNat = some a.toNat

/-- PP_STD (R101): as PD_STD on lane P, with the Pelco P bit map and the address plus 1. -/
def Obligations.PelcoPStandardCommandEvent : Prop :=
  ∀ (s : State) (a c1 c2 d1 d2 : Byte), ∃ t e, exec (.ppStd a c1 c2 d1 d2) s = .next t ∧
    accepts .P s t e ∧
    e.kind = .pelcoStd (axisState c1 c2 s.cfg.ppBitmap.pan) d1 (axisState c1 c2 s.cfg.ppBitmap.tilt) d2
      (axisState c1 c2 s.cfg.ppBitmap.zoom) (axisState c1 c2 s.cfg.ppBitmap.iris)
      (axisState c1 c2 s.cfg.ppBitmap.focus) ∧
    e.camera.map BitVec.toNat = some (a.toNat + 1)

/-- The nine recognized Pelco D extended commands (R104 to R112): each completes from every state with
its action, data2 as argument, and the address as camera id. -/
def Obligations.PelcoDExtendedActionEvents : Prop :=
  ∀ (s : State) (a n : Byte) (i : Instr) (act : ExtAct),
    (i, act) ∈ [(Instr.pdSetPreset a n, ExtAct.setPreset), (.pdClearPreset a n, .clearPreset),
      (.pdGotoPreset a n, .gotoPreset), (.pdSetAux a n, .setAux), (.pdClearAux a n, .clearAux),
      (.pdStartRecTour a n, .startRecordingTour), (.pdStopRecTour a n, .stopRecordingTour),
      (.pdStartTour a n, .startTour), (.pdSetZoomSpeed a n, .setZoomSpeed)] →
    ∃ t e, exec i s = .next t ∧ accepts .D s t e ∧ e.kind = .pelcoExt act n ∧
      e.camera.map BitVec.toNat = some a.toNat

/-- The nine recognized Pelco P extended commands (R114 to R122): the same on lane P, with the address
plus 1. -/
def Obligations.PelcoPExtendedActionEvents : Prop :=
  ∀ (s : State) (a n : Byte) (i : Instr) (act : ExtAct),
    (i, act) ∈ [(Instr.ppSetPreset a n, ExtAct.setPreset), (.ppClearPreset a n, .clearPreset),
      (.ppGotoPreset a n, .gotoPreset), (.ppSetAux a n, .setAux), (.ppClearAux a n, .clearAux),
      (.ppStartRecTour a n, .startRecordingTour), (.ppStopRecTour a n, .stopRecordingTour),
      (.ppStartTour a n, .startTour), (.ppSetZoomSpeed a n, .setZoomSpeed)] →
    ∃ t e, exec i s = .next t ∧ accepts .P s t e ∧ e.kind = .pelcoExt act n ∧
      e.camera.map BitVec.toNat = some (a.toNat + 1)

/-- PD_EXT_UNKNOWN and PP_EXT_UNKNOWN (R113, R123; the payload is the spec's own decision D17): the
event carries all four command and data bytes. -/
def Obligations.UnknownExtendedCommandEvents : Prop :=
  ∀ (s : State) (a c1 c2 d1 d2 : Byte),
    (∃ t e, exec (.pdExtUnknown a c1 c2 d1 d2) s = .next t ∧ accepts .D s t e ∧
      e.kind = .pelcoExtUnknown c1 c2 d1 d2 ∧ e.camera.map BitVec.toNat = some a.toNat) ∧
    (∃ t e, exec (.ppExtUnknown a c1 c2 d1 d2) s = .next t ∧ accepts .P s t e ∧
      e.kind = .pelcoExtUnknown c1 c2 d1 d2 ∧ e.camera.map BitVec.toNat = some (a.toNat + 1))

/-- BOSCH_AUX_ON, BOSCH_AUX_OFF, BOSCH_PRESET_SET, BOSCH_PRESET_SHOT, BOSCH_CANCEL_LATCHING_AUX,
BOSCH_LATCHING_AUX_ON and BOSCH_LATCHING_AUX_OFF (R132 to R138), for 7-bit address bytes (R47): each
completes from every state with its function and the camera id of R125; lane B keeps its window. -/
def Obligations.BoschAuxFunctionEvents : Prop :=
  ∀ (s : State) (hi lo d1 : Byte) (rest : List Byte) (i : Instr) (fn : AuxFn),
    low7 hi = true → low7 lo = true →
    (i, fn) ∈ [(Instr.boschAuxOn hi lo d1 rest, AuxFn.auxOn), (.boschAuxOff hi lo d1 rest, .auxOff),
      (.boschPresetSet hi lo d1 rest, .presetSet), (.boschPresetShot hi lo d1 rest, .presetShot),
      (.boschCancelLatchingAux hi lo d1 rest, .cancelLatchingAux),
      (.boschLatchingAuxOn hi lo d1 rest, .latchingAuxOn),
      (.boschLatchingAuxOff hi lo d1 rest, .latchingAuxOff)] →
    ∃ t e, exec i s = .next t ∧ accepts .B s t e ∧ e.kind = .boschAux fn ∧
      e.camera.map BitVec.toNat = some (hi.toNat * 128 + lo.toNat + 1)

/-- BOSCH_AUX_UNKNOWN_FN (R139): the event carries the 4-bit function code found where the instance
reads it (R57; log 8). -/
def Obligations.BoschUnknownFunctionEvent : Prop :=
  ∀ (s : State) (hi lo d1 : Byte) (rest : List Byte), low7 hi = true → low7 lo = true →
    ∃ t e fn, exec (.boschAuxUnknownFn hi lo d1 rest) s = .next t ∧ accepts .B s t e ∧
      e.kind = .boschAuxUnknownFn fn ∧ fn.toNat = d1.toNat / 2 ^ s.cfg.auxFnSel.val % 16 ∧
      e.camera.map BitVec.toNat = some (hi.toNat * 128 + lo.toNat + 1)

/-- BOSCH_VAR_SPEED (R129): the event carries what BOSCH_VS_DECODE, whatever it is, makes of the three
7-bit data bytes (log 10). -/
def Obligations.BoschVariableSpeedEvent : Prop :=
  ∀ (s : State) (hi lo : Byte) (d1 d2 d3 : BitVec 7) (rest : List Byte),
    low7 hi = true → low7 lo = true →
    ∃ t e, exec (.boschVarSpeed hi lo (d1.setWidth 8) (d2.setWidth 8) (d3.setWidth 8) rest) s
        = .next t ∧ accepts .B s t e ∧ e.kind = .boschVarSpeed (Config.boschVsDecode d1 d2 d3) ∧
      e.camera.map BitVec.toNat = some (hi.toNat * 128 + lo.toNat + 1)

/-- BOSCH_OP and BOSCH_UNKNOWN_OP (R140, R141): the event carries the op-code's value. -/
def Obligations.BoschOpCodeEvents : Prop :=
  ∀ (s : State) (hi lo op : Byte) (data : List Byte),
    low7 hi = true → low7 lo = true → low7 op = true →
    (∃ t e n, exec (.boschOp hi lo op data) s = .next t ∧ accepts .B s t e ∧
      e.kind = .boschOp n ∧ n.toNat = op.toNat ∧
      e.camera.map BitVec.toNat = some (hi.toNat * 128 + lo.toNat + 1)) ∧
    (∃ t e n, exec (.boschUnknownOp hi lo op data) s = .next t ∧ accepts .B s t e ∧
      e.kind = .boschUnknownOp n ∧ n.toNat = op.toNat ∧
      e.camera.map BitVec.toNat = some (hi.toNat * 128 + lo.toNat + 1))

/-- BOSCH_SHORT (R127; the spec's own decision D12): no field is decoded and there is no camera id. -/
def Obligations.BoschShortEvent : Prop :=
  ∀ (s : State) (payload : List Byte), ∃ t e, exec (.boschShort payload) s = .next t ∧
    accepts .B s t e ∧ e.kind = .boschShort ∧ e.camera = none

/-- RESET (R73; the spec's own decision D6) completes from every state, whatever in_valid and in_byte
say: every window is empty, no event is presented, and the count of bytes restarts; the input, the
record and the parameters stay. -/
def Obligations.ResetEmptiesEveryWindow : Prop :=
  ∀ (s : State) (v : Bool) (b : Byte), ∃ t, exec (.reset v b) s = .next t ∧
    (∀ l, t.window l = [] ∧ t.port l = none) ∧ t.pos = 0 ∧ t.input = s.input ∧
    t.trace = s.trace ∧ t.cfg = s.cfg

/-- INGEST (R66) completes from every state: the byte goes into all three windows, and each lane then
accepts its window, reports it, or is silent, as its own decoder says; the events are recorded in lane
order, the byte is counted, and the input and the parameters stay (what a report carries is the spec's
own decision D18; the record is log 12). -/
def Obligations.IngestRunsTheThreeLanes : Prop :=
  ∀ (s : State) (b : Byte), ∃ t, exec (.ingest b) s = .next t ∧
    laneOutcome .D (decodeD s.cfg (pushWindow 7 s.winD b)) (pushWindow 7 s.winD b) t ∧
    laneOutcome .P (decodeP s.cfg (pushWindow 8 s.winP b)) (pushWindow 8 s.winP b) t ∧
    laneOutcome .B (decodeB s.cfg (pushWindowB s.winB b)) (pushWindowB s.winB b) t ∧
    t.trace = s.trace ++ t.presented ∧ t.pos = s.pos + 1 ∧ t.input = s.input ∧ t.cfg = s.cfg

/-! ### A step runs the decoded instruction -/

/-- When the transaction offered next decodes to an instruction, the step is exec of that instruction
with the transaction taken off the input, and nothing else (R27, the spec's own decision D2; log 3).
-/
def Obligations.StepRunsTheOfferedTransaction : Prop :=
  ∀ (s : State) (x : Transaction) (rest : List Transaction) (i : Instr),
    s.input = x :: rest → decodeTransaction x = .ok i → step s = exec i { s with input := rest }

/-- The step that takes a byte puts it into the windows and runs the three detectors in lane order,
and a detector whose window decodes to an instruction is exec of that instruction (R66, R67, R77, R80,
R83): a frame command runs in the step that takes its last byte. -/
def Obligations.StepRunsTheDecodedFrames : Prop :=
  (∀ (s : State) (b : Byte) (rest : List Transaction), s.input = offer b :: rest →
    step s = andThen (andThen (detect .D (State.take { s with input := rest } b)) (detect .P))
      (detect .B)) ∧
  (∀ (s : State) (l : Lane) (i : Instr), s.decodeLane l = .ok i → detect l s = exec i s)

/-- With nothing offered, and in a transaction with rst = 0 and in_valid = 0, a step changes no state
and presents no event (R27, the spec's own decision D2; R43; log 3). -/
def Obligations.NothingOfferedChangesNothing : Prop :=
  (∀ (s : State), s.input = [] → ∃ t, step s = .next t ∧ (∀ l, t.window l = s.window l ∧
    t.port l = none) ∧ t.pos = s.pos ∧ t.input = [] ∧ t.trace = s.trace ∧ t.cfg = s.cfg) ∧
  (∀ (s : State) (b : Byte) (rest : List Transaction), s.input = ⟨false, false, b⟩ :: rest →
    ∃ t, step s = .next t ∧ (∀ l, t.window l = s.window l ∧ t.port l = none) ∧
      t.pos = s.pos ∧ t.input = rest ∧ t.trace = s.trace ∧ t.cfg = s.cfg)

/-- A transaction with rst = 1 is a reset whatever in_valid says, and its byte is not taken (R162;
that the reset wins is the spec's own decision D30). -/
def Obligations.ResetWinsOverTheOfferedByte : Prop :=
  ∀ (s : State) (v : Bool) (b : Byte) (rest : List Transaction), s.input = ⟨true, v, b⟩ :: rest →
    ∃ t, step s = .next t ∧ (∀ l, t.window l = [] ∧ t.port l = none) ∧ t.pos = 0 ∧
      t.input = rest ∧ t.trace = s.trace ∧ t.cfg = s.cfg

/-- An instruction placed by its encoding is what the very next step from reset runs: the transaction
itself, or the frame command, whose lane then presents exactly the event that exec of the command
presents with the frame in the window (the model's placing convention, log 14; the default tables, log
7 and log 8). -/
def Obligations.PlacedInstructionRunsNext : Prop :=
  (∀ i : Instr, i.format = .transaction →
    step (State.reset.place .transaction (encode i)) = exec i State.reset) ∧
  (∀ i : Instr, i.wf = true → i.format = .pelcoD → ∃ t u e,
    step (State.reset.place .pelcoD (encode i)) = .next t ∧
    exec i { State.reset with winD := encode i } = .next u ∧
    u.evD = some e ∧ t.evD = some e ∧ e.kind ≠ .mismatch) ∧
  (∀ i : Instr, i.wf = true → i.format = .pelcoP → ∃ t u e,
    step (State.reset.place .pelcoP (encode i)) = .next t ∧
    exec i { State.reset with winP := encode i } = .next u ∧
    u.evP = some e ∧ t.evP = some e ∧ e.kind ≠ .mismatch) ∧
  (∀ i : Instr, i.wf = true → i.format = .bosch → ∃ t u e,
    step (State.reset.place .bosch (encode i)) = .next t ∧
    exec i { State.reset with winB := encode i } = .next u ∧
    u.evB = some e ∧ t.evB = some e ∧ e.kind ≠ .mismatch)

/-! ### Encodings -/

/-- Every well-formed instruction, with every operand at every value its encoding admits, is what the
decoder reads from its encoding, under the default tables (log 7, log 8) and the transaction bytes of
log 14. -/
def Obligations.DecodeEncodeAgree : Prop :=
  ∀ i : Instr, i.wf = true → decode Config.default i.format (encode i) = .ok i

/-- A frame that a lane accepts under the default tables is the encoding of the instruction the lane
reads, so no bit of it is dropped; and that instruction is well-formed, on lane B for a window in
which only the header has bit 7 set (default tables: log 7, log 8). -/
def Obligations.AcceptedFramesAreTheirEncoding : Prop :=
  (∀ (w : List Byte) (i : Instr), decodeD Config.default w = .ok i → encode i = w ∧ i.wf = true) ∧
  (∀ (w : List Byte) (i : Instr), decodeP Config.default w = .ok i → encode i = w ∧ i.wf = true) ∧
  (∀ (w : List Byte) (i : Instr), decodeB Config.default w = .ok i →
    encode i = w ∧ (tailLow w = true → i.wf = true))

/-- What the encoder writes has the frame formats of R44, R45 and R46: length, sync bytes, checksum,
and for Bosch the declared length and 7-bit bytes after the header. -/
def Obligations.EncodingsHaveTheFrameFormats : Prop :=
  (∀ i : Instr, i.format = .pelcoD → (encode i).length = 7 ∧ (encode i).getD 0 0 = 0xFF ∧
    ((((encode i).drop 1).take 5).map BitVec.toNat).sum % 256 = ((encode i).getD 6 0).toNat) ∧
  (∀ i : Instr, i.format = .pelcoP → (encode i).length = 8 ∧ (encode i).getD 0 0 = 0xA0 ∧
    (encode i).getD 6 0 = 0xAF ∧ ((encode i).take 7).foldl (· ^^^ ·) 0 = (encode i).getD 7 0) ∧
  (∀ i : Instr, i.wf = true → i.format = .bosch → ∃ len, len ≤ 127 ∧ 1 ≤ len ∧
    (encode i).length = len + 1 ∧ ((encode i).getD 0 0).toNat = 128 + len ∧
    allLow7 (encode i).tail = true ∧
    (((encode i).take len).map BitVec.toNat).sum % 128 = ((encode i).getD len 0).toNat)

/-- Frames written out byte by byte from the spec's encodings decode to the instructions they stand
for (examples of R100, R104, R101, R114, R127, R129, R132, R141; the place of the function code is log
8, the short frame the spec's decision D12). -/
def Obligations.WrittenOutFramesDecode : Prop :=
  decodeD Config.default [0xFF, 0x01, 0x00, 0x02, 0x20, 0x00, 0x23]
    = .ok (.pdStd 0x01 0x00 0x02 0x20 0x00) ∧
  decodeD Config.default [0xFF, 0x01, 0x00, 0x03, 0x00, 0x05, 0x09] = .ok (.pdSetPreset 0x01 0x05) ∧
  decodeP Config.default [0xA0, 0x00, 0x00, 0x02, 0x20, 0x00, 0xAF, 0x2D]
    = .ok (.ppStd 0x00 0x00 0x02 0x20 0x00) ∧
  decodeP Config.default [0xA0, 0x00, 0x00, 0x03, 0x00, 0x05, 0xAF, 0x09] = .ok (.ppSetPreset 0x00 0x05) ∧
  decodeB Config.default [0x81, 0x01] = .ok (.boschShort []) ∧
  decodeB Config.default [0x87, 0x00, 0x00, 0x05, 0x01, 0x02, 0x03, 0x12]
    = .ok (.boschVarSpeed 0x00 0x00 0x01 0x02 0x03 []) ∧
  decodeB Config.default [0x85, 0x00, 0x00, 0x07, 0x01, 0x0D] = .ok (.boschAuxOn 0x00 0x00 0x01 []) ∧
  decodeB Config.default [0x84, 0x00, 0x00, 0x1A, 0x1E] = .ok (.boschUnknownOp 0x00 0x00 0x1A [])

/-! ### Structural matches and checksums -/

/-- Lane D evaluates a checksum exactly on a window of 7 bytes that begins with 0xFF, whatever its
other bytes are, and accepts exactly when the checksum validator succeeds too (R74). -/
def Obligations.PelcoDStructuralMatch : Prop :=
  ∀ (cfg : Config) (w : List Byte),
    ((matchFlag (decodeD cfg w) = true ∨ mismatchFlag (decodeD cfg w) = true) ↔
      w.length = 7 ∧ w.getD 0 0 = 0xFF) ∧
    (matchFlag (decodeD cfg w) = true ↔ w.length = 7 ∧ w.getD 0 0 = 0xFF ∧
      cksumD cfg.pdCksumLegacy (w.getD 0 0) (w.getD 1 0) (w.getD 2 0) (w.getD 3 0) (w.getD 4 0)
        (w.getD 5 0) = w.getD 6 0)

/-- Lane P evaluates a checksum exactly on a window of 8 bytes with 0xA0 first and 0xAF at offset 6,
and accepts exactly when the checksum validator succeeds too (R78). -/
def Obligations.PelcoPStructuralMatch : Prop :=
  ∀ (cfg : Config) (w : List Byte),
    ((matchFlag (decodeP cfg w) = true ∨ mismatchFlag (decodeP cfg w) = true) ↔
      w.length = 8 ∧ w.getD 0 0 = 0xA0 ∧ w.getD 6 0 = 0xAF) ∧
    (matchFlag (decodeP cfg w) = true ↔ w.length = 8 ∧ w.getD 0 0 = 0xA0 ∧ w.getD 6 0 = 0xAF ∧
      cksumP (w.getD 0 0) (w.getD 1 0) (w.getD 2 0) (w.getD 3 0) (w.getD 4 0) (w.getD 5 0)
        (w.getD 6 0) = w.getD 7 0)

/-- Lane B evaluates a checksum exactly on a window whose first byte has bit 7 set and declares, in
its low seven bits, a length len one less than the window's, and accepts exactly when the checksum
validator succeeds too over the first len bytes (R81). -/
def Obligations.BoschStructuralMatch : Prop :=
  ∀ (cfg : Config) (w : List Byte),
    ((matchFlag (decodeB cfg w) = true ∨ mismatchFlag (decodeB cfg w) = true) ↔
      1 ≤ w.length ∧ 128 ≤ (w.getD 0 0).toNat ∧ w.length = (w.getD 0 0).toNat % 128 + 1) ∧
    (∀ len, len = (w.getD 0 0).toNat % 128 → (matchFlag (decodeB cfg w) = true ↔
      1 ≤ w.length ∧ 128 ≤ (w.getD 0 0).toNat ∧ w.length = len + 1 ∧
        cksumB (w.take len) = w.getD len 0))

/-- On a structural match, each lane accepts exactly when its checksum is correct: the sum of bytes 1
to 5 modulo 256 (R75); the exclusive or of bytes 0 to 6, which is 0x0F combined with bytes 1 to 5
(R79); the sum of bytes 0 to len - 1 modulo 128, which is 0 for len = 0 (R82). -/
def Obligations.ChecksumsDecideAcceptance : Prop :=
  (∀ (cfg : Config) (w : List Byte), cfg.pdCksumLegacy = false → w.length = 7 → w.getD 0 0 = 0xFF →
    (matchFlag (decodeD cfg w) = true ↔
      (((w.drop 1).take 5).map BitVec.toNat).sum % 256 = (w.getD 6 0).toNat)) ∧
  (∀ (cfg : Config) (w : List Byte), w.length = 8 → w.getD 0 0 = 0xA0 → w.getD 6 0 = 0xAF →
    (matchFlag (decodeP cfg w) = true ↔ (w.take 7).foldl (· ^^^ ·) 0 = w.getD 7 0) ∧
    (w.take 7).foldl (· ^^^ ·) 0 = ((w.drop 1).take 5).foldl (· ^^^ ·) 0x0F) ∧
  (∀ (cfg : Config) (w : List Byte) (len : Nat), w.length = len + 1 →
    (w.getD 0 0).toNat = 128 + len →
    (matchFlag (decodeB cfg w) = true ↔
      ((w.take len).map BitVec.toNat).sum % 128 = (w.getD len 0).toNat))

/-- With the legacy parameter set, which is not the behaviour of this hardware, lane D accepts a
structural match exactly when its last byte is the sum of bytes 0 to 5 modulo 255 (R76, the spec's own
decision D21; log 11). -/
def Obligations.LegacyChecksum : Prop :=
  ∀ (cfg : Config) (w : List Byte), cfg.pdCksumLegacy = true → w.length = 7 → w.getD 0 0 = 0xFF →
    (matchFlag (decodeD cfg w) = true ↔
      ((w.take 6).map BitVec.toNat).sum % 255 = (w.getD 6 0).toNat)

/-- The header 0x80 is a complete candidate whose checksum is always wrong, so taking the byte 0x80 in
any state makes lane B present a mismatch of that one byte (R84; decision D29 of the spec). -/
def Obligations.EmptyBoschHeaderMismatches : Prop :=
  ∀ s : State, ∃ t, exec (.ingest 0x80) s = .next t ∧ t.winB = [0x80] ∧
    t.evB = some ⟨.B, .mismatch, none, [0x80]⟩

/-- A valid frame whose checksum byte arrives changed is reported as a mismatch and not decoded
(R144): on lanes D and P for every changed byte, on lane B for every changed byte with bit 7 clear; a
Bosch checksum byte with bit 7 set re-anchors the lane and decodes nothing (C6). What a report carries
is the spec's own decision D18. -/
def Obligations.CorruptedChecksumIsReported : Prop :=
  (∀ (s : State) (w : List Byte) (i : Instr) (ck : Byte), decodeD s.cfg w = .ok i →
    s.winD = w.dropLast → w.getLast? ≠ some ck →
    ∃ t, exec (.ingest ck) s = .next t ∧ t.evD = some ⟨.D, .mismatch, none, w.dropLast ++ [ck]⟩) ∧
  (∀ (s : State) (w : List Byte) (i : Instr) (ck : Byte), decodeP s.cfg w = .ok i →
    s.winP = w.dropLast → w.getLast? ≠ some ck →
    ∃ t, exec (.ingest ck) s = .next t ∧ t.evP = some ⟨.P, .mismatch, none, w.dropLast ++ [ck]⟩) ∧
  (∀ (s : State) (w : List Byte) (i : Instr) (ck : Byte), decodeB s.cfg w = .ok i →
    s.winB = w.dropLast → w.getLast? ≠ some ck → low7 ck = true →
    ∃ t, exec (.ingest ck) s = .next t ∧ t.evB = some ⟨.B, .mismatch, none, w.dropLast ++ [ck]⟩) ∧
  (∀ (s : State) (ck : Byte), low7 ck = false →
    ∃ t, exec (.ingest ck) s = .next t ∧ t.winB = [ck] ∧ ¬ t.succeeded .B)

/-- Without a structural match a detector changes nothing (R89). -/
def Obligations.NoStructuralMatchIsSilent : Prop :=
  (∀ s : State, ¬ (s.fillD = 7 ∧ s.winD.getD 0 0 = 0xFF) → detect .D s = .next s) ∧
  (∀ s : State, ¬ (s.fillP = 8 ∧ s.winP.getD 0 0 = 0xA0 ∧ s.winP.getD 6 0 = 0xAF) →
    detect .P s = .next s) ∧
  (∀ s : State, ¬ (1 ≤ s.fillB ∧ 128 ≤ (s.winB.getD 0 0).toNat ∧
    s.fillB = (s.winB.getD 0 0).toNat % 128 + 1) → detect .B s = .next s)

/-- On a Bosch success the decoder's event is presented and the window is not changed: fill_B stays
len + 1 (R87). -/
def Obligations.BoschSuccessKeepsTheWindow : Prop :=
  ∀ (s : State) (i : Instr), decodeB s.cfg s.winB = .ok i →
    ∃ t, detect .B s = .next t ∧ exec i s = .next t ∧ t.succeeded .B ∧ t.winB = s.winB ∧
      t.fillB = (s.winB.getD 0 0).toNat % 128 + 1

/-- On a Pelco success the decoder's event is presented and the lane's fill counter is 0; and from an
empty window on, whatever transactions follow, every window and every candidate frame of the lane is
made of bytes taken since, so no byte of the accepted frame is used again (R86). -/
def Obligations.PelcoSuccessUsesUpItsBytes : Prop :=
  (∀ (s : State) (i : Instr), decodeD s.cfg s.winD = .ok i →
    ∃ t, detect .D s = .next t ∧ exec i s = .next t ∧ t.succeeded .D ∧ t.fillD = 0) ∧
  (∀ (s : State) (i : Instr), decodeP s.cfg s.winP = .ok i →
    ∃ t, detect .P s = .next t ∧ exec i s = .next t ∧ t.succeeded .P ∧ t.fillP = 0) ∧
  (∀ (s : State) (k : Nat), s.winD = [] →
    (runSteps k s).winD <:+ takenBytes (s.input.take k) ∧
      (1 ≤ k → ∀ e, (runSteps k s).evD = some e → e.raw <:+ takenBytes (s.input.take k))) ∧
  (∀ (s : State) (k : Nat), s.winP = [] →
    (runSteps k s).winP <:+ takenBytes (s.input.take k) ∧
      (1 ≤ k → ∀ e, (runSteps k s).evP = some e → e.raw <:+ takenBytes (s.input.take k)))

/-! ### Windows -/

/-- The window of a Pelco lane holds the most recent bytes, as many as fit, in arrival order (R69,
R70, R17): pushing the bytes `bs` one by one leaves the last `cap` bytes of the old content followed
by `bs`. -/
def Obligations.WindowHoldsTheLatestBytes : Prop :=
  ∀ (cap : Nat) (w bs : List Byte), 0 < cap → w.length ≤ cap →
    bs.foldl (pushWindow cap) w = (w ++ bs).drop ((w ++ bs).length - cap)

/-- The window of lane B begins at the most recent byte with bit 7 set, whatever it held before (R71):
after such a byte and at most 127 bytes with bit 7 clear it holds exactly these. -/
def Obligations.BoschWindowBeginsAtTheLatestHeader : Prop :=
  ∀ (w before lows : List Byte) (header : Byte), low7 header = false → allLow7 lows = true →
    lows.length ≤ 127 → (before ++ header :: lows).foldl pushWindowB w = header :: lows

/-! ### The whole machine -/

/-- No input stops, stalls or faults the block: every run of n steps completes from every state, and
each step takes one transaction off the input (R142). -/
def Obligations.EveryStepCompletes : Prop :=
  ∀ (n : Nat) (s : State), ∃ t, Host.Core.run core n s = .next t ∧ t.input = s.input.drop n

/-- Every step keeps the windows within their capacities (R16: the fill count never exceeds the
capacity) and lane B's window free of a second header (R47). -/
def Obligations.StepKeepsTheWindowForm : Prop :=
  ∀ s t : State, s.wf = true → step s = .next t → t.wf = true

/-- Every step keeps a state sound: besides the window form, every event presented or recorded is an
event record of R60, with a kind of its lane, a camera id exactly where its kind has one, and 1 to 128
raw bytes (the record's form is the spec's own decision, D17, D18 and D20). -/
def Obligations.StepKeepsTheStateSound : Prop :=
  ∀ s t : State, s.sound = true → step s = .next t → t.sound = true

/-- After reset the state is sound, its three fill counters are 0 and it presents no event (R28, R160;
the spec's own decision D6). -/
def Obligations.ResetStateIsSound : Prop :=
  State.reset.sound = true ∧ State.reset.fillD = 0 ∧ State.reset.fillP = 0 ∧ State.reset.fillB = 0 ∧
    State.reset.presented = [] ∧ State.reset.pos = 0

/-- No run writes the parameters of the instance (R23, R42; that they stand in State is the model's
choice, log 4). -/
def Obligations.ParametersAreConstant : Prop :=
  ∀ (n : Nat) (s t : State), Host.Core.run core n s = .next t → t.cfg = s.cfg

/-- In one step each lane presents at most one event, the events are recorded behind the earlier ones,
and their order is D, P, B, diagnostic and decoded events alike (R40, R151; for diagnostic events the
spec's own decision D19; the record is log 12). -/
def Obligations.EventsLeaveInLaneOrder : Prop :=
  ∀ s t : State, step s = .next t → t.trace = s.trace ++ t.presented ∧ t.presented.length ≤ 3 ∧
    (t.presented.map fun e => laneCode e.lane).Pairwise (· < ·) ∧
    ∀ l e, t.port l = some e → e.lane = l

/-- The lanes share no state (R19): what a lane's window and port are after any number of steps
depends only on the input, the parameters and that lane's own window; no other lane, no record and no
count has a part in it. -/
def Obligations.LanesDoNotInterfere : Prop :=
  ∀ (l : Lane) (n : Nat) (s t : State), s.cfg = t.cfg → s.input = t.input →
    s.window l = t.window l →
    (runSteps n s).window l = (runSteps n t).window l ∧
      (0 < n → (runSteps n s).port l = (runSteps n t).port l)

/-- A reset in the stream makes everything after it independent of everything before it (R163): two
machines with the same parameters that take the same reset and then the same input have the same
windows, ports and byte count after every later step, whatever they held before. -/
def Obligations.ResetForgetsThePast : Prop :=
  ∀ (n : Nat) (s t : State) (x : Transaction) (rest : List Transaction), x.rst = true →
    s.cfg = t.cfg → s.input = x :: rest → t.input = x :: rest → 0 < n →
    (∀ l, (runSteps n s).window l = (runSteps n t).window l ∧
      (runSteps n s).port l = (runSteps n t).port l) ∧
    (runSteps n s).pos = (runSteps n t).pos

/-- The bytes of a stream handed over in one chunk or in two leave the same state, the record of
events included (R33, R72). -/
def Obligations.ChunkBoundariesAreInvisible : Prop :=
  ∀ (s : State) (xs ys : List Byte),
    runSteps (xs.length + ys.length) { s with input := offers (xs ++ ys) } =
      runSteps ys.length
        { runSteps xs.length { s with input := offers xs } with input := offers ys }

/-- However long nothing is offered, the next transaction acts exactly as if it had been offered at
once (R43), and transactions that offer nothing, wherever they stand in the stream, change no window,
no recorded event and no count (that such a transaction changes nothing is R27, the spec's own
decision D2; the input list is log 3, the record log 12). -/
def Obligations.WaitingIsInvisible : Prop :=
  (∀ (n : Nat) (s : State) (x : Transaction), s.input = [] →
    step { runSteps n s with input := [x] } = step { s with input := [x] }) ∧
  (∀ (s : State) (xs : List Transaction),
    let busy := xs.filter fun x => x.rst || x.inValid
    let t := runSteps xs.length { s with input := xs }
    let u := runSteps busy.length { s with input := busy }
    (∀ l, t.window l = u.window l) ∧ t.trace = u.trace ∧ t.pos = u.pos)

/-! ### Resynchronisation -/

/-- A valid Pelco D frame in the stream is detected at its last byte if and only if lane D succeeded
at none of its first six bytes (R91), whatever preceded it. -/
def Obligations.PelcoDFrameDetection : Prop :=
  ∀ (s : State) (f : List Byte) (i : Instr) (rest : List Transaction), s.wf = true →
    decodeD s.cfg f = .ok i → s.input = offers f ++ rest →
    ((∃ e, (runSteps 7 s).evD = some e ∧ e.kind ≠ .mismatch ∧ e.raw = f) ↔
      ∀ k, 1 ≤ k → k ≤ 6 → ¬ (runSteps k s).succeeded .D)

/-- A valid Pelco P frame in the stream is detected at its last byte if and only if lane P succeeded
at none of its first seven bytes (R91), whatever preceded it. -/
def Obligations.PelcoPFrameDetection : Prop :=
  ∀ (s : State) (f : List Byte) (i : Instr) (rest : List Transaction), s.wf = true →
    decodeP s.cfg f = .ok i → s.input = offers f ++ rest →
    ((∃ e, (runSteps 8 s).evP = some e ∧ e.kind ≠ .mismatch ∧ e.raw = f) ↔
      ∀ k, 1 ≤ k → k ≤ 7 → ¬ (runSteps k s).succeeded .P)

/-- A valid Bosch frame is always detected at its last byte, whatever state the machine was in when
its header arrived (R92). -/
def Obligations.BoschFrameIsAlwaysDetected : Prop :=
  ∀ (s : State) (f : List Byte) (i : Instr) (rest : List Transaction),
    decodeB s.cfg f = .ok i → tailLow f = true → s.input = offers f ++ rest →
    ∃ e, (runSteps f.length s).evB = some e ∧ e.kind ≠ .mismatch ∧ e.raw = f

/-- Lane B evaluates a header at most once (R90): when the window already holds len + 1 bytes or more
behind its header, or has no header, then lane B is silent, through evictions too, for as long as the
bytes that arrive have bit 7 clear. -/
def Obligations.BoschHeaderIsEvaluatedOnce : Prop :=
  ∀ (s : State) (bs : List Byte) (rest : List Transaction), s.wf = true →
    (low7 (s.winB.getD 0 0) = false → (s.winB.getD 0 0).toNat % 128 + 1 ≤ s.fillB) →
    allLow7 bs = true → s.input = offers bs ++ rest →
    ∀ k, 1 ≤ k → k ≤ bs.length → (runSteps k s).evB = none

/-! ### Decoders -/

/-- Camera ids (R95, R96, R125): the address byte on lane D, the address byte plus 1 on lane P without
wrap, and on lane B the two 7-bit address bytes, most significant first, plus 1, a value of 1 to
16384; each for every frame the lane accepts (on lane B, with its op-code byte). -/
def Obligations.CameraIds : Prop :=
  (∀ (s : State) (i : Instr), decodeD s.cfg s.winD = .ok i → ∃ t e c, exec i s = .next t ∧
    t.evD = some e ∧ e.camera = some c ∧ c.toNat = (s.winD.getD 1 0).toNat) ∧
  (∀ (s : State) (i : Instr), decodeP s.cfg s.winP = .ok i → ∃ t e c, exec i s = .next t ∧
    t.evP = some e ∧ e.camera = some c ∧ c.toNat = (s.winP.getD 1 0).toNat + 1) ∧
  (∀ (s : State) (i : Instr), decodeB s.cfg s.winB = .ok i → tailLow s.winB = true → 5 ≤ s.fillB →
    ∃ t e c, exec i s = .next t ∧ t.evB = some e ∧ e.camera = some c ∧
      c.toNat = ((s.winB.getD 1 0).toNat <<< 7 ||| (s.winB.getD 2 0).toNat) + 1 ∧
      1 ≤ c.toNat ∧ c.toNat ≤ 16384)

/-- An extended frame selects a row of EXT_LUT whose triple equals its own in all 24 bits (R54), with
data2 as the argument (R102), and is an unknown extended command, carrying its four command and data
bytes, when no row does (R113, R123; the payload is the spec's own decision D17); lanes D and P use
the same table (the spec's own decision D8; where it stands in State is log 4). -/
def Obligations.ExtendedTableMatchesExactly : Prop :=
  (∀ (s : State) (i : Instr), decodeD s.cfg s.winD = .ok i → (s.winD.getD 3 0)[0] = true →
    ∃ t e, exec i s = .next t ∧ t.evD = some e ∧
      ((∃ r ∈ s.cfg.extLut, r.cmd1 = s.winD.getD 2 0 ∧ r.cmd2 = s.winD.getD 3 0 ∧
          r.data1 = s.winD.getD 4 0 ∧ e.kind = .pelcoExt r.action (s.winD.getD 5 0)) ∨
       ((∀ r ∈ s.cfg.extLut, ¬ (r.cmd1 = s.winD.getD 2 0 ∧ r.cmd2 = s.winD.getD 3 0 ∧
          r.data1 = s.winD.getD 4 0)) ∧
        e.kind = .pelcoExtUnknown (s.winD.getD 2 0) (s.winD.getD 3 0) (s.winD.getD 4 0)
          (s.winD.getD 5 0)))) ∧
  (∀ (s : State) (i : Instr), decodeP s.cfg s.winP = .ok i → (s.winP.getD 3 0)[0] = true →
    ∃ t e, exec i s = .next t ∧ t.evP = some e ∧
      ((∃ r ∈ s.cfg.extLut, r.cmd1 = s.winP.getD 2 0 ∧ r.cmd2 = s.winP.getD 3 0 ∧
          r.data1 = s.winP.getD 4 0 ∧ e.kind = .pelcoExt r.action (s.winP.getD 5 0)) ∨
       ((∀ r ∈ s.cfg.extLut, ¬ (r.cmd1 = s.winP.getD 2 0 ∧ r.cmd2 = s.winP.getD 3 0 ∧
          r.data1 = s.winP.getD 4 0)) ∧
        e.kind = .pelcoExtUnknown (s.winP.getD 2 0) (s.winP.getD 3 0) (s.winP.getD 4 0)
          (s.winP.getD 5 0))))

/-- Under the default EXT_LUT a triple is an action's exactly when cmd1 and data1 are 0x00 and cmd2 is
the action's code (R53; but for SetPreset the table is general knowledge, log 7). -/
def Obligations.DefaultExtendedTable : Prop :=
  ∀ (c1 c2 d1 : Byte) (act : ExtAct),
    extLookup Config.default.extLut c1 c2 d1 = some act ↔ c1 = 0x00 ∧ d1 = 0x00 ∧
      (c2, act) ∈ [((0x03 : Byte), ExtAct.setPreset), (0x05, .clearPreset), (0x07, .gotoPreset),
        (0x09, .setAux), (0x0B, .clearAux), (0x1F, .startRecordingTour), (0x21, .stopRecordingTour),
        (0x23, .startTour), (0x25, .setZoomSpeed)]

/-- An axis state is the one of Stop, Pos, Neg, Ambiguous that its code selects: the positive flag
plus twice the negative flag, each the named bit of the named command byte, for every bit map (R97);
so both flags set is the fourth state (R98). -/
def Obligations.AxisStateIsItsTwoFlags : Prop :=
  ∀ (c1 c2 : Byte) (p n : Fin 8) (pb nb : CmdByte),
    [Axis.stop, .pos, .neg, .ambiguous][(if pb = .cmd1 then c1.toNat else c2.toNat) / 2 ^ p.val % 2 +
        2 * ((if nb = .cmd1 then c1.toNat else c2.toNat) / 2 ^ n.val % 2)]? =
      some (axisState c1 c2 ⟨⟨pb, p⟩, ⟨nb, n⟩⟩)

/-- Under the default bit maps the bits outside the map change no field of a standard command (R52,
the spec's own decision D16): in Pelco D cmd1[7:3], in Pelco P cmd1[7:4] and cmd2[7] (the maps are
general knowledge but for the pan row, log 5 and log 6). -/
def Obligations.UnmappedBitsAreIgnored : Prop :=
  (∀ c1 c1' c2 d1 d2 : Byte, c1 &&& 0x07 = c1' &&& 0x07 →
    stdKind defaultPdBitmap c1 c2 d1 d2 = stdKind defaultPdBitmap c1' c2 d1 d2) ∧
  (∀ c1 c1' c2 c2' d1 d2 : Byte, c1 &&& 0x0F = c1' &&& 0x0F → c2 &&& 0x7F = c2' &&& 0x7F →
    stdKind defaultPpBitmap c1 c2 d1 d2 = stdKind defaultPpBitmap c1' c2' d1 d2)

/-- The op-code arms of the Bosch decoder (R124, R127, R128, R140, R141), for a frame `w` that the
lane accepts, len being its length less 1: fewer than 4 is a short frame; then 0x05 is field-decoded
from len 7 on and 0x07 from len 5 on, and shorter ones are named; 0x1A is unknown; and any other
op-code is named or unknown as BOSCH_NAMED_OPS has it (short frames are the spec's own decisions D12
and D13; the place of the function code is log 8). -/
def Obligations.BoschDecoderArms : Prop :=
  ∀ (cfg : Config) (w : List Byte) (i : Instr) (len : Nat), decodeB cfg w = .ok i →
    w.length = len + 1 →
    (len < 4 → i = .boschShort (w.tail.dropLast)) ∧
    (4 ≤ len → w.getD 3 0 = 0x05 → len < 7 →
      i = .boschOp (w.getD 1 0) (w.getD 2 0) 0x05 ((w.drop 4).dropLast)) ∧
    (4 ≤ len → w.getD 3 0 = 0x05 → 7 ≤ len →
      i = .boschVarSpeed (w.getD 1 0) (w.getD 2 0) (w.getD 4 0) (w.getD 5 0) (w.getD 6 0)
        ((w.drop 7).dropLast)) ∧
    (w.getD 3 0 = 0x07 → len = 4 → i = .boschOp (w.getD 1 0) (w.getD 2 0) 0x07 []) ∧
    (w.getD 3 0 = 0x07 → 5 ≤ len →
      i = classifyAux cfg.auxFnSel (w.getD 1 0) (w.getD 2 0) (w.getD 4 0) ((w.drop 5).dropLast)) ∧
    (4 ≤ len → w.getD 3 0 = 0x1A →
      i = .boschUnknownOp (w.getD 1 0) (w.getD 2 0) 0x1A ((w.drop 4).dropLast)) ∧
    (4 ≤ len → w.getD 3 0 ≠ 0x05 → w.getD 3 0 ≠ 0x07 →
      i = if boschNamed (w.getD 3 0)
        then .boschOp (w.getD 1 0) (w.getD 2 0) (w.getD 3 0) ((w.drop 4).dropLast)
        else .boschUnknownOp (w.getD 1 0) (w.getD 2 0) (w.getD 3 0) ((w.drop 4).dropLast))

/-- An op-code 0x07 frame with a data byte presents the function its code names, or the code itself
when the table has no such code (R56, R131, R139); the code is the four bits of f[4] that the instance
reads (R57; log 8), and nothing else of the data bytes has a part in it. -/
def Obligations.BoschFunctionTable : Prop :=
  ∀ (s : State) (i : Instr), decodeB s.cfg s.winB = .ok i → s.winB.getD 3 0 = 0x07 → 6 ≤ s.fillB →
    ∃ t e code, exec i s = .next t ∧ t.evB = some e ∧
      code = (s.winB.getD 4 0).toNat / 2 ^ s.cfg.auxFnSel.val % 16 ∧
      ((∃ fn, (code, fn) ∈ [(1, AuxFn.auxOn), (2, .auxOff), (4, .presetSet), (5, .presetShot),
            (8, .cancelLatchingAux), (9, .latchingAuxOn), (10, .latchingAuxOff)] ∧
          e.kind = .boschAux fn) ∨
       (code ∈ [0, 3, 6, 7, 11, 12, 13, 14, 15] ∧
        e.kind = .boschAuxUnknownFn (BitVec.ofNat 4 code)))
end

