-- ==== Sys2Proof/Laws/Decode.lean ====
section
/-! SUPPORT. What the decoders answer: the format of the instruction, and the exact cases of each
lane's decoder. -/

namespace Sys2Proof

/-! ### Formats -/

theorem classifyD_format (lut : List ExtRow) (a c1 c2 d1 d2 : Byte) :
    (classifyD lut a c1 c2 d1 d2).format = .pelcoD := by
  unfold classifyD; split
  · split <;> rfl
  · rfl

theorem classifyP_format (lut : List ExtRow) (a c1 c2 d1 d2 : Byte) :
    (classifyP lut a c1 c2 d1 d2).format = .pelcoP := by
  unfold classifyP; split
  · split <;> rfl
  · rfl

theorem classifyAux_format (sel : Fin 4) (hi lo d1 : Byte) (rest : List Byte) :
    (classifyAux sel hi lo d1 rest).format = .bosch := by
  unfold classifyAux; split <;> rfl

theorem classifyOp_format (sel : Fin 4) (hi lo op : Byte) (data : List Byte) :
    (classifyOp sel hi lo op data).format = .bosch := by
  unfold classifyOp; split
  · split <;> rfl
  · split
    · split
      · exact classifyAux_format ..
      · rfl
    · split <;> rfl

theorem classifyB_format (sel : Fin 4) (payload : List Byte) :
    (classifyB sel payload).format = .bosch := by
  unfold classifyB; split
  · exact classifyOp_format ..
  · rfl

/-! ### Lane D -/

/-- Seven bytes are all that lane D's decoder reads. -/
theorem decodeD_seven (cfg : Config) (f0 a c1 c2 d1 d2 ck : Byte) :
    decodeD cfg [f0, a, c1, c2, d1, d2, ck] =
      if f0 ≠ Config.syncD then .error .sync
      else if cksumD cfg.pdCksumLegacy f0 a c1 c2 d1 d2 ≠ ck then .error .checksum
      else .ok (classifyD cfg.extLut a c1 c2 d1 d2) := rfl

theorem list_length_seven {α : Type} (w : List α) (h : w.length = 7) :
    ∃ a b c d e f g, w = [a, b, c, d, e, f, g] := by
  match w, h with
  | [a, b, c, d, e, f, g], _ => exact ⟨a, b, c, d, e, f, g, rfl⟩

theorem list_length_eight {α : Type} (w : List α) (h : w.length = 8) :
    ∃ a b c d e f g i, w = [a, b, c, d, e, f, g, i] := by
  match w, h with
  | [a, b, c, d, e, f, g, i], _ => exact ⟨a, b, c, d, e, f, g, i, rfl⟩

theorem decodeD_of_length_ne (cfg : Config) (w : List Byte) (h : w.length ≠ 7) :
    decodeD cfg w = .error .length := by
  unfold decodeD; split
  · simp at h
  · rfl

/-- Lane D's decoder answers an instruction exactly on seven bytes with the sync byte and a correct
checksum (R74, R75, R77). -/
theorem decodeD_ok (cfg : Config) (w : List Byte) (i : Instr) (h : decodeD cfg w = .ok i) :
    ∃ a c1 c2 d1 d2, w = [Config.syncD, a, c1, c2, d1, d2,
        cksumD cfg.pdCksumLegacy Config.syncD a c1 c2 d1 d2] ∧
      i = classifyD cfg.extLut a c1 c2 d1 d2 := by
  unfold decodeD at h; split at h
  · split at h
    · cases h
    · split at h
      · cases h
      · rename_i h1 h2
        simp only [ne_eq, Decidable.not_not] at h1 h2
        subst h1 h2
        exact ⟨_, _, _, _, _, rfl, by simpa using h.symm⟩
  · cases h

/-- Lane D's decoder reports a wrong checksum exactly on seven bytes with the sync byte (R88). -/
theorem decodeD_checksum (cfg : Config) (w : List Byte) (h : decodeD cfg w = .error .checksum) :
    ∃ a c1 c2 d1 d2 ck, w = [Config.syncD, a, c1, c2, d1, d2, ck] ∧
      cksumD cfg.pdCksumLegacy Config.syncD a c1 c2 d1 d2 ≠ ck := by
  unfold decodeD at h; split at h
  · split at h
    · cases h
    · split at h
      · rename_i h1 h2
        simp only [ne_eq, Decidable.not_not] at h1
        subst h1
        exact ⟨_, _, _, _, _, _, rfl, h2⟩
      · cases h
  · cases h

theorem decodeD_format (cfg : Config) (w : List Byte) (i : Instr) (h : decodeD cfg w = .ok i) :
    i.format = .pelcoD := by
  obtain ⟨_, _, _, _, _, _, rfl⟩ := decodeD_ok cfg w i h
  exact classifyD_format ..

/-! ### Lane P -/

theorem decodeP_eight (cfg : Config) (f0 a c1 c2 d1 d2 f6 ck : Byte) :
    decodeP cfg [f0, a, c1, c2, d1, d2, f6, ck] =
      if f0 ≠ Config.syncP then .error .sync
      else if f6 ≠ Config.endP then .error .endByte
      else if cksumP f0 a c1 c2 d1 d2 f6 ≠ ck then .error .checksum
      else .ok (classifyP cfg.extLut a c1 c2 d1 d2) := rfl

theorem decodeP_of_length_ne (cfg : Config) (w : List Byte) (h : w.length ≠ 8) :
    decodeP cfg w = .error .length := by
  unfold decodeP; split
  · simp at h
  · rfl

/-- Lane P's decoder answers an instruction exactly on eight bytes with the start byte, the end byte
and a correct checksum (R78, R79, R80). -/
theorem decodeP_ok (cfg : Config) (w : List Byte) (i : Instr) (h : decodeP cfg w = .ok i) :
    ∃ a c1 c2 d1 d2, w = [Config.syncP, a, c1, c2, d1, d2, Config.endP,
        cksumP Config.syncP a c1 c2 d1 d2 Config.endP] ∧
      i = classifyP cfg.extLut a c1 c2 d1 d2 := by
  unfold decodeP at h; split at h
  · split at h
    · cases h
    · split at h
      · cases h
      · split at h
        · cases h
        · rename_i h1 h2 h3
          simp only [ne_eq, Decidable.not_not] at h1 h2 h3
          subst h1 h2 h3
          exact ⟨_, _, _, _, _, rfl, by simpa using h.symm⟩
  · cases h

/-- Lane P's decoder reports a wrong checksum exactly on eight bytes with start and end byte (R88). -/
theorem decodeP_checksum (cfg : Config) (w : List Byte) (h : decodeP cfg w = .error .checksum) :
    ∃ a c1 c2 d1 d2 ck, w = [Config.syncP, a, c1, c2, d1, d2, Config.endP, ck] ∧
      cksumP Config.syncP a c1 c2 d1 d2 Config.endP ≠ ck := by
  unfold decodeP at h; split at h
  · split at h
    · cases h
    · split at h
      · cases h
      · split at h
        · rename_i h1 h2 h3
          simp only [ne_eq, Decidable.not_not] at h1 h2
          subst h1 h2
          exact ⟨_, _, _, _, _, _, rfl, h3⟩
        · cases h
  · cases h

theorem decodeP_format (cfg : Config) (w : List Byte) (i : Instr) (h : decodeP cfg w = .ok i) :
    i.format = .pelcoP := by
  obtain ⟨_, _, _, _, _, _, rfl⟩ := decodeP_ok cfg w i h
  exact classifyP_format ..

/-! ### Lane B -/

theorem declaredLen_lt (h : Byte) : declaredLen h < 128 := Nat.mod_lt _ (by decide)

/-- A header is its marker and its length (R46). -/
theorem header_toNat (h : Byte) (hm : h[7] = true) : h.toNat = 128 + declaredLen h := by
  have hlt := h.isLt
  have : h.toNat / 128 = 1 := by
    have h2 : h.toNat.testBit 7 = true := hm
    rw [Nat.testBit_eq_decide_div_mod_eq] at h2
    simp at h2
    omega
  unfold declaredLen
  omega

/-- Lane B's decoder answers an instruction exactly on len + 1 bytes behind a header of length len,
with a correct checksum (R81, R82, R83). -/
theorem decodeB_ok (cfg : Config) (w : List Byte) (i : Instr) (h : decodeB cfg w = .ok i) :
    ∃ header tail, ∃ hne : header :: tail ≠ [], w = header :: tail ∧ header[7] = true ∧
      tail.length = declaredLen header ∧
      cksumB (header :: tail).dropLast = (header :: tail).getLast hne ∧
      i = classifyB cfg.auxFnSel tail.dropLast := by
  unfold decodeB at h; split at h
  · cases h
  · split at h
    · cases h
    · split at h
      · cases h
      · split at h
        · cases h
        · rename_i h1 h2 h3
          exact ⟨_, _, by simp, rfl, by simpa using h1, by simpa using h2, by simpa using h3,
            by simpa using h.symm⟩

/-- Lane B's decoder reports a wrong checksum exactly on len + 1 bytes behind a header (R88). -/
theorem decodeB_checksum (cfg : Config) (w : List Byte) (h : decodeB cfg w = .error .checksum) :
    ∃ header tail, ∃ hne : header :: tail ≠ [], w = header :: tail ∧ header[7] = true ∧
      tail.length = declaredLen header ∧
      cksumB (header :: tail).dropLast ≠ (header :: tail).getLast hne := by
  unfold decodeB at h; split at h
  · cases h
  · split at h
    · cases h
    · split at h
      · cases h
      · split at h
        · rename_i h1 h2 h3
          exact ⟨_, _, by simp, rfl, by simpa using h1, by simpa using h2, by simpa using h3⟩
        · cases h

theorem decodeB_format (cfg : Config) (w : List Byte) (i : Instr) (h : decodeB cfg w = .ok i) :
    i.format = .bosch := by
  obtain ⟨_, _, _, _, _, _, _, rfl⟩ := decodeB_ok cfg w i h
  exact classifyB_format ..

/-! ### Encoders -/

theorem encodeB_length (payload : List Byte) : (encodeB payload).length = payload.length + 2 := by
  simp [encodeB]

theorem cksumB_low (body : List Byte) : low7 (cksumB body) = true := by
  have h : (body.map BitVec.toNat).sum % 128 < 2 ^ 7 := Nat.mod_lt _ (by decide)
  have h7 : (cksumB body).getLsbD 7 = false := by
    rw [cksumB, BitVec.getLsbD_ofNat, Nat.testBit_lt_two_pow h]; rfl
  simpa [low7] using h7

end Sys2Proof
end

