-- ==== Sys2Proof/Laws/State.lean ====
section
/-! SUPPORT. One lemma per field per update of the state. -/

namespace Sys2Proof.Machine

section
variable (s : State) (b : Byte) (k : Kind) (c : BitVec 15) (oc : Option (BitVec 15)) (r : List Byte)

/-! ### quiet -/
@[simp] theorem State.quiet_winD : (s.quiet).winD = s.winD := rfl
@[simp] theorem State.quiet_winP : (s.quiet).winP = s.winP := rfl
@[simp] theorem State.quiet_winB : (s.quiet).winB = s.winB := rfl
@[simp] theorem State.quiet_pos : (s.quiet).pos = s.pos := rfl
@[simp] theorem State.quiet_input : (s.quiet).input = s.input := rfl
@[simp] theorem State.quiet_evD : (s.quiet).evD = none := rfl
@[simp] theorem State.quiet_evP : (s.quiet).evP = none := rfl
@[simp] theorem State.quiet_evB : (s.quiet).evB = none := rfl
@[simp] theorem State.quiet_trace : (s.quiet).trace = s.trace := rfl
@[simp] theorem State.quiet_cfg : (s.quiet).cfg = s.cfg := rfl

/-! ### pushD -/
@[simp] theorem State.pushD_winD : (s.pushD b).winD = pushWindow Config.capD s.winD b := rfl
@[simp] theorem State.pushD_winP : (s.pushD b).winP = s.winP := rfl
@[simp] theorem State.pushD_winB : (s.pushD b).winB = s.winB := rfl
@[simp] theorem State.pushD_pos : (s.pushD b).pos = s.pos := rfl
@[simp] theorem State.pushD_input : (s.pushD b).input = s.input := rfl
@[simp] theorem State.pushD_evD : (s.pushD b).evD = s.evD := rfl
@[simp] theorem State.pushD_evP : (s.pushD b).evP = s.evP := rfl
@[simp] theorem State.pushD_evB : (s.pushD b).evB = s.evB := rfl
@[simp] theorem State.pushD_trace : (s.pushD b).trace = s.trace := rfl
@[simp] theorem State.pushD_cfg : (s.pushD b).cfg = s.cfg := rfl

/-! ### pushP -/
@[simp] theorem State.pushP_winD : (s.pushP b).winD = s.winD := rfl
@[simp] theorem State.pushP_winP : (s.pushP b).winP = pushWindow Config.capP s.winP b := rfl
@[simp] theorem State.pushP_winB : (s.pushP b).winB = s.winB := rfl
@[simp] theorem State.pushP_pos : (s.pushP b).pos = s.pos := rfl
@[simp] theorem State.pushP_input : (s.pushP b).input = s.input := rfl
@[simp] theorem State.pushP_evD : (s.pushP b).evD = s.evD := rfl
@[simp] theorem State.pushP_evP : (s.pushP b).evP = s.evP := rfl
@[simp] theorem State.pushP_evB : (s.pushP b).evB = s.evB := rfl
@[simp] theorem State.pushP_trace : (s.pushP b).trace = s.trace := rfl
@[simp] theorem State.pushP_cfg : (s.pushP b).cfg = s.cfg := rfl

/-! ### pushB -/
@[simp] theorem State.pushB_winD : (s.pushB b).winD = s.winD := rfl
@[simp] theorem State.pushB_winP : (s.pushB b).winP = s.winP := rfl
@[simp] theorem State.pushB_winB : (s.pushB b).winB = pushWindowB s.winB b := rfl
@[simp] theorem State.pushB_pos : (s.pushB b).pos = s.pos := rfl
@[simp] theorem State.pushB_input : (s.pushB b).input = s.input := rfl
@[simp] theorem State.pushB_evD : (s.pushB b).evD = s.evD := rfl
@[simp] theorem State.pushB_evP : (s.pushB b).evP = s.evP := rfl
@[simp] theorem State.pushB_evB : (s.pushB b).evB = s.evB := rfl
@[simp] theorem State.pushB_trace : (s.pushB b).trace = s.trace := rfl
@[simp] theorem State.pushB_cfg : (s.pushB b).cfg = s.cfg := rfl

/-! ### take -/
@[simp] theorem State.take_winD : (s.take b).winD = pushWindow Config.capD s.winD b := rfl
@[simp] theorem State.take_winP : (s.take b).winP = pushWindow Config.capP s.winP b := rfl
@[simp] theorem State.take_winB : (s.take b).winB = pushWindowB s.winB b := rfl
@[simp] theorem State.take_pos : (s.take b).pos = s.pos + 1 := rfl
@[simp] theorem State.take_input : (s.take b).input = s.input := rfl
@[simp] theorem State.take_evD : (s.take b).evD = none := rfl
@[simp] theorem State.take_evP : (s.take b).evP = none := rfl
@[simp] theorem State.take_evB : (s.take b).evB = none := rfl
@[simp] theorem State.take_trace : (s.take b).trace = s.trace := rfl
@[simp] theorem State.take_cfg : (s.take b).cfg = s.cfg := rfl

/-! ### presentD -/
@[simp] theorem State.presentD_winD : (s.present ⟨.D, k, oc, r⟩).winD = s.winD := rfl
@[simp] theorem State.presentD_winP : (s.present ⟨.D, k, oc, r⟩).winP = s.winP := rfl
@[simp] theorem State.presentD_winB : (s.present ⟨.D, k, oc, r⟩).winB = s.winB := rfl
@[simp] theorem State.presentD_pos : (s.present ⟨.D, k, oc, r⟩).pos = s.pos := rfl
@[simp] theorem State.presentD_input : (s.present ⟨.D, k, oc, r⟩).input = s.input := rfl
@[simp] theorem State.presentD_evD : (s.present ⟨.D, k, oc, r⟩).evD = some ⟨.D, k, oc, r⟩ := rfl
@[simp] theorem State.presentD_evP : (s.present ⟨.D, k, oc, r⟩).evP = s.evP := rfl
@[simp] theorem State.presentD_evB : (s.present ⟨.D, k, oc, r⟩).evB = s.evB := rfl
@[simp] theorem State.presentD_trace : (s.present ⟨.D, k, oc, r⟩).trace = s.trace ++ [⟨.D, k, oc, r⟩] := rfl
@[simp] theorem State.presentD_cfg : (s.present ⟨.D, k, oc, r⟩).cfg = s.cfg := rfl

/-! ### presentP -/
@[simp] theorem State.presentP_winD : (s.present ⟨.P, k, oc, r⟩).winD = s.winD := rfl
@[simp] theorem State.presentP_winP : (s.present ⟨.P, k, oc, r⟩).winP = s.winP := rfl
@[simp] theorem State.presentP_winB : (s.present ⟨.P, k, oc, r⟩).winB = s.winB := rfl
@[simp] theorem State.presentP_pos : (s.present ⟨.P, k, oc, r⟩).pos = s.pos := rfl
@[simp] theorem State.presentP_input : (s.present ⟨.P, k, oc, r⟩).input = s.input := rfl
@[simp] theorem State.presentP_evD : (s.present ⟨.P, k, oc, r⟩).evD = s.evD := rfl
@[simp] theorem State.presentP_evP : (s.present ⟨.P, k, oc, r⟩).evP = some ⟨.P, k, oc, r⟩ := rfl
@[simp] theorem State.presentP_evB : (s.present ⟨.P, k, oc, r⟩).evB = s.evB := rfl
@[simp] theorem State.presentP_trace : (s.present ⟨.P, k, oc, r⟩).trace = s.trace ++ [⟨.P, k, oc, r⟩] := rfl
@[simp] theorem State.presentP_cfg : (s.present ⟨.P, k, oc, r⟩).cfg = s.cfg := rfl

/-! ### presentB -/
@[simp] theorem State.presentB_winD : (s.present ⟨.B, k, oc, r⟩).winD = s.winD := rfl
@[simp] theorem State.presentB_winP : (s.present ⟨.B, k, oc, r⟩).winP = s.winP := rfl
@[simp] theorem State.presentB_winB : (s.present ⟨.B, k, oc, r⟩).winB = s.winB := rfl
@[simp] theorem State.presentB_pos : (s.present ⟨.B, k, oc, r⟩).pos = s.pos := rfl
@[simp] theorem State.presentB_input : (s.present ⟨.B, k, oc, r⟩).input = s.input := rfl
@[simp] theorem State.presentB_evD : (s.present ⟨.B, k, oc, r⟩).evD = s.evD := rfl
@[simp] theorem State.presentB_evP : (s.present ⟨.B, k, oc, r⟩).evP = s.evP := rfl
@[simp] theorem State.presentB_evB : (s.present ⟨.B, k, oc, r⟩).evB = some ⟨.B, k, oc, r⟩ := rfl
@[simp] theorem State.presentB_trace : (s.present ⟨.B, k, oc, r⟩).trace = s.trace ++ [⟨.B, k, oc, r⟩] := rfl
@[simp] theorem State.presentB_cfg : (s.present ⟨.B, k, oc, r⟩).cfg = s.cfg := rfl

/-! ### mismatchD -/
@[simp] theorem State.mismatchD_winD : (s.reportMismatch .D).winD = s.winD := rfl
@[simp] theorem State.mismatchD_winP : (s.reportMismatch .D).winP = s.winP := rfl
@[simp] theorem State.mismatchD_winB : (s.reportMismatch .D).winB = s.winB := rfl
@[simp] theorem State.mismatchD_pos : (s.reportMismatch .D).pos = s.pos := rfl
@[simp] theorem State.mismatchD_input : (s.reportMismatch .D).input = s.input := rfl
@[simp] theorem State.mismatchD_evD : (s.reportMismatch .D).evD = some ⟨.D, .mismatch, none, s.winD⟩ := rfl
@[simp] theorem State.mismatchD_evP : (s.reportMismatch .D).evP = s.evP := rfl
@[simp] theorem State.mismatchD_evB : (s.reportMismatch .D).evB = s.evB := rfl
@[simp] theorem State.mismatchD_trace : (s.reportMismatch .D).trace = s.trace ++ [⟨.D, .mismatch, none, s.winD⟩] := rfl
@[simp] theorem State.mismatchD_cfg : (s.reportMismatch .D).cfg = s.cfg := rfl

/-! ### mismatchP -/
@[simp] theorem State.mismatchP_winD : (s.reportMismatch .P).winD = s.winD := rfl
@[simp] theorem State.mismatchP_winP : (s.reportMismatch .P).winP = s.winP := rfl
@[simp] theorem State.mismatchP_winB : (s.reportMismatch .P).winB = s.winB := rfl
@[simp] theorem State.mismatchP_pos : (s.reportMismatch .P).pos = s.pos := rfl
@[simp] theorem State.mismatchP_input : (s.reportMismatch .P).input = s.input := rfl
@[simp] theorem State.mismatchP_evD : (s.reportMismatch .P).evD = s.evD := rfl
@[simp] theorem State.mismatchP_evP : (s.reportMismatch .P).evP = some ⟨.P, .mismatch, none, s.winP⟩ := rfl
@[simp] theorem State.mismatchP_evB : (s.reportMismatch .P).evB = s.evB := rfl
@[simp] theorem State.mismatchP_trace : (s.reportMismatch .P).trace = s.trace ++ [⟨.P, .mismatch, none, s.winP⟩] := rfl
@[simp] theorem State.mismatchP_cfg : (s.reportMismatch .P).cfg = s.cfg := rfl

/-! ### mismatchB -/
@[simp] theorem State.mismatchB_winD : (s.reportMismatch .B).winD = s.winD := rfl
@[simp] theorem State.mismatchB_winP : (s.reportMismatch .B).winP = s.winP := rfl
@[simp] theorem State.mismatchB_winB : (s.reportMismatch .B).winB = s.winB := rfl
@[simp] theorem State.mismatchB_pos : (s.reportMismatch .B).pos = s.pos := rfl
@[simp] theorem State.mismatchB_input : (s.reportMismatch .B).input = s.input := rfl
@[simp] theorem State.mismatchB_evD : (s.reportMismatch .B).evD = s.evD := rfl
@[simp] theorem State.mismatchB_evP : (s.reportMismatch .B).evP = s.evP := rfl
@[simp] theorem State.mismatchB_evB : (s.reportMismatch .B).evB = some ⟨.B, .mismatch, none, s.winB⟩ := rfl
@[simp] theorem State.mismatchB_trace : (s.reportMismatch .B).trace = s.trace ++ [⟨.B, .mismatch, none, s.winB⟩] := rfl
@[simp] theorem State.mismatchB_cfg : (s.reportMismatch .B).cfg = s.cfg := rfl

/-! ### acceptD -/
@[simp] theorem State.acceptD_winD : (s.acceptD k c).winD = [] := rfl
@[simp] theorem State.acceptD_winP : (s.acceptD k c).winP = s.winP := rfl
@[simp] theorem State.acceptD_winB : (s.acceptD k c).winB = s.winB := rfl
@[simp] theorem State.acceptD_pos : (s.acceptD k c).pos = s.pos := rfl
@[simp] theorem State.acceptD_input : (s.acceptD k c).input = s.input := rfl
@[simp] theorem State.acceptD_evD : (s.acceptD k c).evD = some ⟨.D, k, some c, s.winD⟩ := rfl
@[simp] theorem State.acceptD_evP : (s.acceptD k c).evP = s.evP := rfl
@[simp] theorem State.acceptD_evB : (s.acceptD k c).evB = s.evB := rfl
@[simp] theorem State.acceptD_trace : (s.acceptD k c).trace = s.trace ++ [⟨.D, k, some c, s.winD⟩] := rfl
@[simp] theorem State.acceptD_cfg : (s.acceptD k c).cfg = s.cfg := rfl

/-! ### acceptP -/
@[simp] theorem State.acceptP_winD : (s.acceptP k c).winD = s.winD := rfl
@[simp] theorem State.acceptP_winP : (s.acceptP k c).winP = [] := rfl
@[simp] theorem State.acceptP_winB : (s.acceptP k c).winB = s.winB := rfl
@[simp] theorem State.acceptP_pos : (s.acceptP k c).pos = s.pos := rfl
@[simp] theorem State.acceptP_input : (s.acceptP k c).input = s.input := rfl
@[simp] theorem State.acceptP_evD : (s.acceptP k c).evD = s.evD := rfl
@[simp] theorem State.acceptP_evP : (s.acceptP k c).evP = some ⟨.P, k, some c, s.winP⟩ := rfl
@[simp] theorem State.acceptP_evB : (s.acceptP k c).evB = s.evB := rfl
@[simp] theorem State.acceptP_trace : (s.acceptP k c).trace = s.trace ++ [⟨.P, k, some c, s.winP⟩] := rfl
@[simp] theorem State.acceptP_cfg : (s.acceptP k c).cfg = s.cfg := rfl

/-! ### acceptB -/
@[simp] theorem State.acceptB_winD : (s.acceptB k oc).winD = s.winD := rfl
@[simp] theorem State.acceptB_winP : (s.acceptB k oc).winP = s.winP := rfl
@[simp] theorem State.acceptB_winB : (s.acceptB k oc).winB = s.winB := rfl
@[simp] theorem State.acceptB_pos : (s.acceptB k oc).pos = s.pos := rfl
@[simp] theorem State.acceptB_input : (s.acceptB k oc).input = s.input := rfl
@[simp] theorem State.acceptB_evD : (s.acceptB k oc).evD = s.evD := rfl
@[simp] theorem State.acceptB_evP : (s.acceptB k oc).evP = s.evP := rfl
@[simp] theorem State.acceptB_evB : (s.acceptB k oc).evB = some ⟨.B, k, oc, s.winB⟩ := rfl
@[simp] theorem State.acceptB_trace : (s.acceptB k oc).trace = s.trace ++ [⟨.B, k, oc, s.winB⟩] := rfl
@[simp] theorem State.acceptB_cfg : (s.acceptB k oc).cfg = s.cfg := rfl

@[simp] theorem State.window_D : s.window .D = s.winD := rfl
@[simp] theorem State.window_P : s.window .P = s.winP := rfl
@[simp] theorem State.window_B : s.window .B = s.winB := rfl

end

end Sys2Proof.Machine
end

