-- ==== Sys2Proof/Laws/Ops.lean ====
section
/-! SUPPORT. What each shared operation can do, said once. -/

namespace Sys2Proof.Machine

/-! ### Running in sequence -/

@[simp] theorem andThen_next (s : State) (k : State → Result) : andThen (.next s) k = k s := rfl

/-- A sequence answers a next state exactly where both halves do. -/
theorem andThen_eq_next (r : Result) (k : State → Result) (t : State) :
    andThen r k = .next t ↔ ∃ s, r = .next s ∧ k s = .next t := by
  cases r <;> simp [andThen]

/-! ### Windows -/

theorem pushWindow_length (cap : Nat) (w : List Byte) (b : Byte) (hc : 0 < cap) :
    (pushWindow cap w b).length = if w.length < cap then w.length + 1 else w.length := by
  unfold pushWindow; split <;> simp; omega

theorem pushWindow_length_le (cap : Nat) (w : List Byte) (b : Byte) (hc : 0 < cap)
    (h : w.length ≤ cap) : (pushWindow cap w b).length ≤ cap := by
  rw [pushWindow_length cap w b hc]; split <;> omega

theorem pushWindow_ne_nil (cap : Nat) (w : List Byte) (b : Byte) : pushWindow cap w b ≠ [] := by
  unfold pushWindow; split <;> simp

theorem pushWindow_of_lt {cap : Nat} {w : List Byte} (b : Byte) (h : w.length < cap) :
    pushWindow cap w b = w ++ [b] := by
  simp [pushWindow, h]

theorem pushWindowB_length_le (w : List Byte) (b : Byte) (h : w.length ≤ Config.capB) :
    (pushWindowB w b).length ≤ Config.capB := by
  unfold pushWindowB; split
  · exact pushWindow_length_le _ _ _ (by decide) (by simp)
  · exact pushWindow_length_le _ _ _ (by decide) h

theorem pushWindowB_anchor (w : List Byte) (b : Byte) (h : b[7] = true) :
    pushWindowB w b = [b] := by
  simp [pushWindowB, pushWindow, h]

theorem pushWindowB_low (w : List Byte) (b : Byte) (h : b[7] = false) :
    pushWindowB w b = pushWindow Config.capB w b := by
  simp [pushWindowB, h]

@[simp] theorem allLow7_append (a b : List Byte) : allLow7 (a ++ b) = (allLow7 a && allLow7 b) := by
  simp [allLow7]

@[simp] theorem allLow7_cons (b : Byte) (bs : List Byte) :
    allLow7 (b :: bs) = (low7 b && allLow7 bs) := by
  simp [allLow7]

@[simp] theorem allLow7_nil : allLow7 [] = true := rfl

theorem allLow7_tail (w : List Byte) (h : allLow7 w = true) : allLow7 w.tail = true := by
  cases w <;> simp_all

theorem allLow7_dropLast (w : List Byte) (h : allLow7 w = true) : allLow7 w.dropLast = true := by
  simp only [allLow7, List.all_eq_true] at *
  exact fun x hx => h x (List.mem_of_mem_dropLast hx)

/-- Lane B's window keeps its form (R47). -/
theorem pushWindowB_tailLow (w : List Byte) (b : Byte) (h : tailLow w = true) :
    tailLow (pushWindowB w b) = true := by
  by_cases hb : b[7]
  · simp [pushWindowB_anchor w b hb, tailLow]
  · simp only [Bool.not_eq_true] at hb
    rw [pushWindowB_low w b hb]
    have hl : low7 b = true := by simp [low7, hb]
    cases w with
    | nil => simp [pushWindow, tailLow]
    | cons x xs =>
      have hx : allLow7 xs = true := h
      unfold pushWindow; split
      · simp [tailLow, hx, hl]
      · cases xs with
        | nil => simp [tailLow]
        | cons y ys => simp_all [tailLow]

/-! ### Presenting an event -/

/-- What `present` does whatever the lane: it writes no window, no parameter, no input, no counter. -/
theorem State.present_frame (s : State) (e : Event) :
    (s.present e).winD = s.winD ∧ (s.present e).winP = s.winP ∧ (s.present e).winB = s.winB ∧
      (s.present e).pos = s.pos ∧ (s.present e).input = s.input ∧ (s.present e).cfg = s.cfg ∧
      (s.present e).trace = s.trace ++ [e] := by
  unfold State.present; split <;> simp

/-- A mismatch report changes no window, whatever the lane (R88). -/
theorem State.reportMismatch_frame (s : State) (l : Lane) :
    (s.reportMismatch l).winD = s.winD ∧ (s.reportMismatch l).winP = s.winP ∧
      (s.reportMismatch l).winB = s.winB ∧ (s.reportMismatch l).pos = s.pos ∧
      (s.reportMismatch l).input = s.input ∧ (s.reportMismatch l).cfg = s.cfg := by
  cases l <;> simp

end Sys2Proof.Machine
end

