-- ==== Sys2Proof/Laws/Machine.lean ====
section
/-! SUPPORT. What a frame command, a detector and the two transactions can do: the inversion lemmas
that later proofs cite instead of unfolding the meanings. -/

namespace Sys2Proof.Machine

/-- A frame command that a lane decodes runs as exec runs it. -/
theorem runFrame_eq_exec (i : Instr) (s : State) (h : i.format ≠ .transaction) :
    runFrame i s = exec i s := by
  cases i <;> first | rfl | exact absurd rfl h

/-- A lane D command answers exactly one event of lane D, and empties the window (R86). -/
theorem runFrame_pelcoD (i : Instr) (s : State) (h : i.format = .pelcoD) :
    ∃ k c, kindOfLane .D k = true ∧ noCamera k = false ∧ runFrame i s = .next (s.acceptD k c) := by
  cases i <;> first
    | (cases h; done)
    | (refine ⟨_, _, ?_, ?_, rfl⟩ <;> rfl)

/-- A lane P command answers exactly one event of lane P, and empties the window (R86). -/
theorem runFrame_pelcoP (i : Instr) (s : State) (h : i.format = .pelcoP) :
    ∃ k c, kindOfLane .P k = true ∧ noCamera k = false ∧ runFrame i s = .next (s.acceptP k c) := by
  cases i <;> first
    | (cases h; done)
    | (refine ⟨_, _, ?_, ?_, rfl⟩ <;> rfl)

/-- A lane B command answers exactly one event of lane B, and keeps the window (R87). -/
theorem runFrame_bosch (i : Instr) (s : State) (h : i.format = .bosch) :
    ∃ k c, kindOfLane .B k = true ∧ (c.isNone = noCamera k) ∧
      runFrame i s = .next (s.acceptB k c) := by
  cases i <;> first
    | (cases h; done)
    | (refine ⟨_, _, ?_, ?_, rfl⟩ <;> rfl)

/-- The three outcomes of lane D's detector (R77, R86, R88, R89). -/
theorem detectD_cases (s : State) :
    (∃ i k c, decodeD s.cfg s.winD = .ok i ∧ kindOfLane .D k = true ∧ noCamera k = false ∧
      runFrame i s = .next (s.acceptD k c) ∧ detect .D s = .next (s.acceptD k c)) ∨
    (decodeD s.cfg s.winD = .error .checksum ∧ detect .D s = .next (s.reportMismatch .D)) ∨
    (matchFlag (decodeD s.cfg s.winD) = false ∧ mismatchFlag (decodeD s.cfg s.winD) = false ∧
      detect .D s = .next s) := by
  have hd : detect .D s = match decodeD s.cfg s.winD with
    | .ok i => runFrame i s
    | .error .checksum => .next (s.reportMismatch .D)
    | .error _ => .next s := rfl
  match h : decodeD s.cfg s.winD with
  | .ok i =>
    obtain ⟨k, c, hk, hc, hr⟩ := runFrame_pelcoD i s (decodeD_format _ _ _ h)
    exact .inl ⟨i, k, c, rfl, hk, hc, hr, by rw [hd, h]; exact hr⟩
  | .error .checksum => exact .inr (.inl ⟨rfl, by rw [hd, h]⟩)
  | .error .length | .error .sync | .error .endByte | .error .idle | .error .transaction =>
    exact .inr (.inr ⟨rfl, rfl, by rw [hd, h]⟩)

/-- The three outcomes of lane P's detector (R80, R86, R88, R89). -/
theorem detectP_cases (s : State) :
    (∃ i k c, decodeP s.cfg s.winP = .ok i ∧ kindOfLane .P k = true ∧ noCamera k = false ∧
      runFrame i s = .next (s.acceptP k c) ∧ detect .P s = .next (s.acceptP k c)) ∨
    (decodeP s.cfg s.winP = .error .checksum ∧ detect .P s = .next (s.reportMismatch .P)) ∨
    (matchFlag (decodeP s.cfg s.winP) = false ∧ mismatchFlag (decodeP s.cfg s.winP) = false ∧
      detect .P s = .next s) := by
  have hd : detect .P s = match decodeP s.cfg s.winP with
    | .ok i => runFrame i s
    | .error .checksum => .next (s.reportMismatch .P)
    | .error _ => .next s := rfl
  match h : decodeP s.cfg s.winP with
  | .ok i =>
    obtain ⟨k, c, hk, hc, hr⟩ := runFrame_pelcoP i s (decodeP_format _ _ _ h)
    exact .inl ⟨i, k, c, rfl, hk, hc, hr, by rw [hd, h]; exact hr⟩
  | .error .checksum => exact .inr (.inl ⟨rfl, by rw [hd, h]⟩)
  | .error .length | .error .sync | .error .endByte | .error .idle | .error .transaction =>
    exact .inr (.inr ⟨rfl, rfl, by rw [hd, h]⟩)

/-- The three outcomes of lane B's detector (R83, R87, R88, R89). -/
theorem detectB_cases (s : State) :
    (∃ i k c, decodeB s.cfg s.winB = .ok i ∧ kindOfLane .B k = true ∧ (c.isNone = noCamera k) ∧
      runFrame i s = .next (s.acceptB k c) ∧ detect .B s = .next (s.acceptB k c)) ∨
    (decodeB s.cfg s.winB = .error .checksum ∧ detect .B s = .next (s.reportMismatch .B)) ∨
    (matchFlag (decodeB s.cfg s.winB) = false ∧ mismatchFlag (decodeB s.cfg s.winB) = false ∧
      detect .B s = .next s) := by
  have hd : detect .B s = match decodeB s.cfg s.winB with
    | .ok i => runFrame i s
    | .error .checksum => .next (s.reportMismatch .B)
    | .error _ => .next s := rfl
  match h : decodeB s.cfg s.winB with
  | .ok i =>
    obtain ⟨k, c, hk, hc, hr⟩ := runFrame_bosch i s (decodeB_format _ _ _ h)
    exact .inl ⟨i, k, c, rfl, hk, hc, hr, by rw [hd, h]; exact hr⟩
  | .error .checksum => exact .inr (.inl ⟨rfl, by rw [hd, h]⟩)
  | .error .length | .error .sync | .error .endByte | .error .idle | .error .transaction =>
    exact .inr (.inr ⟨rfl, rfl, by rw [hd, h]⟩)

/-- INGEST in its order: the windows, then the detectors D, P, B (R66, R67). -/
theorem execIngest_eq (b : Byte) (s : State) :
    exec (.ingest b) s = andThen (andThen (detect .D (s.take b)) (detect .P)) (detect .B) := rfl

/-- The four things a step can do (R27, R43, R66, R73). -/
theorem step_cases (s : State) :
    (s.input = [] ∧ step s = .next s.quiet) ∨
    (∃ t rest, s.input = t :: rest ∧
      ((t.rst = true ∧ step s = exec (.reset t.inValid t.inByte) { s with input := rest }) ∨
       (t.rst = false ∧ t.inValid = true ∧
         step s = exec (.ingest t.inByte) { s with input := rest }) ∨
       (t.rst = false ∧ t.inValid = false ∧
         step s = .next (State.quiet { s with input := rest })))) := by
  cases hi : s.input with
  | nil => exact .inl ⟨rfl, by simp [step, State.fetch, hi]⟩
  | cons t rest =>
    refine .inr ⟨t, rest, rfl, ?_⟩
    cases hr : t.rst <;> cases hv : t.inValid <;>
      simp [step, State.fetch, hi, decodeTransaction, hr, hv]

end Sys2Proof.Machine
end

