-- ==== Sys2Proof/Laws/PerInstr.lean ====
section
/-! SUPPORT. A family of statements with one lemma per constructor: how many bytes the encoder writes
for an instruction (R44, R45, R46 of spec/30_encoding.md). -/

namespace Sys2Proof.Laws.EncodeLength

/-- The encoding has as many bytes as its format says: two for a transaction, 7 and 8 for the Pelco
frames, and for a well-formed Bosch command 2 to 128. -/
def Statement (i : Instr) : Prop :=
  match i.format with
  | .transaction => (encode i).length = 2
  | .pelcoD => (encode i).length = 7
  | .pelcoP => (encode i).length = 8
  | .bosch => i.wf = true → 2 ≤ (encode i).length ∧ (encode i).length ≤ 128

theorem ingest (b : Byte) : Statement (.ingest b) := rfl
theorem reset (v : Bool) (b : Byte) : Statement (.reset v b) := rfl
theorem pdStd (a c1 c2 d1 d2 : Byte) : Statement (.pdStd a c1 c2 d1 d2) := rfl
theorem pdSetPreset (a d2 : Byte) : Statement (.pdSetPreset a d2) := rfl
theorem pdClearPreset (a d2 : Byte) : Statement (.pdClearPreset a d2) := rfl
theorem pdGotoPreset (a d2 : Byte) : Statement (.pdGotoPreset a d2) := rfl
theorem pdSetAux (a d2 : Byte) : Statement (.pdSetAux a d2) := rfl
theorem pdClearAux (a d2 : Byte) : Statement (.pdClearAux a d2) := rfl
theorem pdStartRecTour (a d2 : Byte) : Statement (.pdStartRecTour a d2) := rfl
theorem pdStopRecTour (a d2 : Byte) : Statement (.pdStopRecTour a d2) := rfl
theorem pdStartTour (a d2 : Byte) : Statement (.pdStartTour a d2) := rfl
theorem pdSetZoomSpeed (a d2 : Byte) : Statement (.pdSetZoomSpeed a d2) := rfl
theorem pdExtUnknown (a c1 c2 d1 d2 : Byte) : Statement (.pdExtUnknown a c1 c2 d1 d2) := rfl
theorem ppStd (a c1 c2 d1 d2 : Byte) : Statement (.ppStd a c1 c2 d1 d2) := rfl
theorem ppSetPreset (a d2 : Byte) : Statement (.ppSetPreset a d2) := rfl
theorem ppClearPreset (a d2 : Byte) : Statement (.ppClearPreset a d2) := rfl
theorem ppGotoPreset (a d2 : Byte) : Statement (.ppGotoPreset a d2) := rfl
theorem ppSetAux (a d2 : Byte) : Statement (.ppSetAux a d2) := rfl
theorem ppClearAux (a d2 : Byte) : Statement (.ppClearAux a d2) := rfl
theorem ppStartRecTour (a d2 : Byte) : Statement (.ppStartRecTour a d2) := rfl
theorem ppStopRecTour (a d2 : Byte) : Statement (.ppStopRecTour a d2) := rfl
theorem ppStartTour (a d2 : Byte) : Statement (.ppStartTour a d2) := rfl
theorem ppSetZoomSpeed (a d2 : Byte) : Statement (.ppSetZoomSpeed a d2) := rfl
theorem ppExtUnknown (a c1 c2 d1 d2 : Byte) : Statement (.ppExtUnknown a c1 c2 d1 d2) := rfl
/-- A Bosch command whose payload has at most 126 bytes has an encoding of 2 to 128 bytes (R46). -/
theorem bosch_bounds (payload : List Byte) (h : payload.length ≤ 126) :
    2 ≤ (encodeB payload).length ∧ (encodeB payload).length ≤ 128 := by
  rw [encodeB_length]; omega

/-- What the rows of op-code 0x07 share. -/
theorem aux_bounds (codes : List (BitVec 4)) (hi lo d1 : Byte) (rest : List Byte)
    (h : auxWf codes hi lo d1 rest = true) :
    2 ≤ (encodeB (hi :: lo :: 0x07 :: d1 :: rest)).length ∧
      (encodeB (hi :: lo :: 0x07 :: d1 :: rest)).length ≤ 128 := by
  simp only [auxWf, Bool.and_eq_true, decide_eq_true_eq] at h
  exact bosch_bounds _ (by simp only [List.length_cons]; omega)

theorem boschShort (payload : List Byte) : Statement (.boschShort payload) := fun h => by
  simp only [Instr.wf, Bool.and_eq_true, decide_eq_true_eq] at h
  exact bosch_bounds _ (by omega)
theorem boschVarSpeed (hi lo d1 d2 d3 : Byte) (rest : List Byte) :
    Statement (.boschVarSpeed hi lo d1 d2 d3 rest) := fun h => by
  simp only [Instr.wf, Bool.and_eq_true, decide_eq_true_eq] at h
  exact bosch_bounds _ (by simp only [List.length_cons]; omega)
theorem boschAuxOn (hi lo d1 : Byte) (rest : List Byte) :
    Statement (.boschAuxOn hi lo d1 rest) := aux_bounds _ _ _ _ _
theorem boschAuxOff (hi lo d1 : Byte) (rest : List Byte) :
    Statement (.boschAuxOff hi lo d1 rest) := aux_bounds _ _ _ _ _
theorem boschPresetSet (hi lo d1 : Byte) (rest : List Byte) :
    Statement (.boschPresetSet hi lo d1 rest) := aux_bounds _ _ _ _ _
theorem boschPresetShot (hi lo d1 : Byte) (rest : List Byte) :
    Statement (.boschPresetShot hi lo d1 rest) := aux_bounds _ _ _ _ _
theorem boschCancelLatchingAux (hi lo d1 : Byte) (rest : List Byte) :
    Statement (.boschCancelLatchingAux hi lo d1 rest) := aux_bounds _ _ _ _ _
theorem boschLatchingAuxOn (hi lo d1 : Byte) (rest : List Byte) :
    Statement (.boschLatchingAuxOn hi lo d1 rest) := aux_bounds _ _ _ _ _
theorem boschLatchingAuxOff (hi lo d1 : Byte) (rest : List Byte) :
    Statement (.boschLatchingAuxOff hi lo d1 rest) := aux_bounds _ _ _ _ _
theorem boschAuxUnknownFn (hi lo d1 : Byte) (rest : List Byte) :
    Statement (.boschAuxUnknownFn hi lo d1 rest) := aux_bounds _ _ _ _ _
theorem boschOp (hi lo op : Byte) (data : List Byte) :
    Statement (.boschOp hi lo op data) := fun h => by
  simp only [Instr.wf, Bool.and_eq_true, decide_eq_true_eq] at h
  exact bosch_bounds _ (by simp only [List.length_cons]; omega)
theorem boschUnknownOp (hi lo op : Byte) (data : List Byte) :
    Statement (.boschUnknownOp hi lo op data) := fun h => by
  simp only [Instr.wf, Bool.and_eq_true, decide_eq_true_eq] at h
  exact bosch_bounds _ (by simp only [List.length_cons]; omega)

end Sys2Proof.Laws.EncodeLength
end

