-- ==== Sys2Proof/Machine/Stream.lean ====
section
/-! DEFINITION. The stream notation of the spec's test programs (R63 of spec/30_encoding.md, the spec's own
decision D24): what a line of a program expands to. The lines are expansions only; the block sees the
transactions. -/

namespace Sys2Proof.Machine

/-- A line of a program; `ck` is a checksum byte given explicitly. -/
inductive Line where
  | bytes (bs : List Byte)
  | pd (address cmd1 cmd2 data1 data2 : Byte) (ck : Option Byte)
  | pp (address cmd1 cmd2 data1 data2 : Byte) (ck : Option Byte)
  | bosch (hi lo op : Byte) (data : List Byte)
  | reset
deriving DecidableEq, Repr

/-- A frame with its last byte replaced where a checksum is given. -/
def withChecksum (frame : List Byte) : Option Byte → List Byte
  | none => frame
  | some k => frame.dropLast ++ [k]

/-- The transactions of a line. -/
def Line.expand : Line → List Transaction
  | .bytes bs => bs.map offer
  | .pd a c1 c2 d1 d2 ck => (withChecksum (encodeD a c1 c2 d1 d2) ck).map offer
  | .pp a c1 c2 d1 d2 ck => (withChecksum (encodeP a c1 c2 d1 d2) ck).map offer
  | .bosch hi lo op data => (encodeB (hi :: lo :: op :: data)).map offer
  | .reset => [{ rst := true, inValid := false, inByte := 0 }]

/-- The transactions of a program. -/
def expandProgram (lines : List Line) : List Transaction := lines.flatMap Line.expand

end Sys2Proof.Machine
end

