-- ==== Sys2Proof/Tests/Slice0.lean ====
section
/-! SUPPORT. The model's own tests. An expected result comes from the spec, from the rule or the vector
a comment names: the example of an instruction's rule, or an entry of spec/95_test_vectors.md. Then,
for each statement with hypotheses, a witness: concrete states and operands that meet them. -/

namespace Sys2Proof.Tests

open Sys2Proof.Machine

/-! ### Helpers -/

/-- The next state, or the reset state where a step stops. -/
def nextOf (r : Result) : State :=
  match r with
  | .next t => t
  | _ => State.reset

/-- After the one step from reset that takes the last byte of the frame. -/
def afterFrame (fmt : Format) (f : List Byte) : State := nextOf (step (State.reset.place fmt f))

/-- What an event says, without its raw bytes. -/
def told (e : Option Event) : Option (Kind × Option (BitVec 15)) := e.map fun x => (x.kind, x.camera)

/-- Reset, with bytes offered. -/
def offered (bs : List Byte) : State := { State.reset with input := offers bs }

/-- The valid frames most tests and witnesses use: the examples of R100, R101 and R132. -/
def frD : List Byte := [0xFF, 0x01, 0x00, 0x02, 0x20, 0x00, 0x23]
def frP : List Byte := [0xA0, 0x00, 0x00, 0x02, 0x20, 0x00, 0xAF, 0x2D]
def frB : List Byte := [0x85, 0x00, 0x00, 0x07, 0x01, 0x0D]

/-! ### WellFormed refuses an ill-formed term, one for each check -/

theorem test_wf_std_extended_bit : (Instr.pdStd 0 0 0x01 0 0).wf = false ∧
    (Instr.ppStd 0 0 0xFF 0 0).wf = false := by decide
theorem test_wf_unknown_without_bit : (Instr.pdExtUnknown 0 0 0x02 0 0).wf = false ∧
    (Instr.ppExtUnknown 0 0 0x02 0 0).wf = false := by decide
theorem test_wf_unknown_in_table : (Instr.pdExtUnknown 0 0x00 0x03 0x00 0).wf = false ∧
    (Instr.ppExtUnknown 0 0x00 0x25 0x00 0).wf = false := by decide
theorem test_wf_short_too_long : (Instr.boschShort [0, 0, 0]).wf = false := by decide
theorem test_wf_short_high_bit : (Instr.boschShort [0x80]).wf = false := by decide
theorem test_wf_var_speed_high_bit : (Instr.boschVarSpeed 0 0 0 0x80 0 []).wf = false ∧
    (Instr.boschVarSpeed 0 0 0 0 0 [0xFF]).wf = false := by decide
set_option maxRecDepth 8000 in
theorem test_wf_var_speed_too_long :
    (Instr.boschVarSpeed 0 0 0 0 0 (List.replicate 121 0)).wf = false := by decide
theorem test_wf_aux_high_bit : (Instr.boschAuxOn 0x80 0 1 []).wf = false ∧
    (Instr.boschAuxOff 0 0x80 2 []).wf = false ∧ (Instr.boschPresetSet 0 0 0x84 []).wf = false ∧
    (Instr.boschPresetShot 0 0 5 [0x80]).wf = false := by decide
set_option maxRecDepth 8000 in
theorem test_wf_aux_too_long : (Instr.boschAuxOn 0 0 1 (List.replicate 123 0)).wf = false := by decide
theorem test_wf_aux_code : (Instr.boschAuxOn 0 0 2 []).wf = false ∧
    (Instr.boschAuxOff 0 0 1 []).wf = false ∧ (Instr.boschPresetSet 0 0 5 []).wf = false ∧
    (Instr.boschPresetShot 0 0 4 []).wf = false ∧ (Instr.boschCancelLatchingAux 0 0 9 []).wf = false ∧
    (Instr.boschLatchingAuxOn 0 0 8 []).wf = false ∧ (Instr.boschLatchingAuxOff 0 0 9 []).wf = false ∧
    (Instr.boschAuxUnknownFn 0 0 1 []).wf = false := by decide
theorem test_wf_op_high_bit : (Instr.boschOp 0 0 0x85 []).wf = false ∧
    (Instr.boschOp 0x80 0 0x05 []).wf = false ∧ (Instr.boschUnknownOp 0 0 0x9A []).wf = false ∧
    (Instr.boschUnknownOp 0 0x80 0x1A []).wf = false := by decide
set_option maxRecDepth 8000 in
theorem test_wf_op_too_long : (Instr.boschOp 0 0 0x05 (List.replicate 124 0)).wf = false ∧
    (Instr.boschUnknownOp 0 0 0x1A (List.replicate 124 0)).wf = false := by decide
theorem test_wf_op_name : (Instr.boschOp 0 0 0x1A []).wf = false ∧
    (Instr.boschUnknownOp 0 0 0x05 []).wf = false ∧ (Instr.boschUnknownOp 0 0 0x07 []).wf = false := by
  decide
theorem test_wf_op_decodable : (Instr.boschOp 0 0 0x05 [1, 2, 3]).wf = false ∧
    (Instr.boschOp 0 0 0x07 [1]).wf = false := by decide

/-! ### Every constructor decoded from bytes written out from its encoding -/

-- R66 and R73: the pattern bits are rst, in_valid, in_byte[7:0], the most significant first
theorem test_decode_ingest : decodeTableWord 10 0b01_1010_0101 = some (.ingest 0xA5) := by decide
theorem test_decode_reset : decodeTableWord 10 0b10_1010_0101 = some (.reset false 0xA5) ∧
    decodeTableWord 10 0b11_0000_0001 = some (.reset true 0x01) := by decide
-- the examples of R100, R104 to R113
theorem test_decode_pdStd : decodeTableWord 56 0x23_00_20_02_00_01_FF =
    some (.pdStd 0x01 0x00 0x02 0x20 0x00) := by decide
theorem test_decode_pdSetPreset : decodeTableWord 56 0x09_05_00_03_00_01_FF =
    some (.pdSetPreset 0x01 0x05) := by decide
theorem test_decode_pdClearPreset : decodeD Config.default
    [0xFF, 0x01, 0x00, 0x05, 0x00, 0x05, 0x0B] = .ok (.pdClearPreset 0x01 0x05) := by decide
theorem test_decode_pdGotoPreset : decodeD Config.default
    [0xFF, 0x01, 0x00, 0x07, 0x00, 0x05, 0x0D] = .ok (.pdGotoPreset 0x01 0x05) := by decide
theorem test_decode_pdSetAux : decodeD Config.default
    [0xFF, 0x01, 0x00, 0x09, 0x00, 0x05, 0x0F] = .ok (.pdSetAux 0x01 0x05) := by decide
theorem test_decode_pdClearAux : decodeD Config.default
    [0xFF, 0x01, 0x00, 0x0B, 0x00, 0x05, 0x11] = .ok (.pdClearAux 0x01 0x05) := by decide
theorem test_decode_pdStartRecTour : decodeD Config.default
    [0xFF, 0x01, 0x00, 0x1F, 0x00, 0x05, 0x25] = .ok (.pdStartRecTour 0x01 0x05) := by decide
theorem test_decode_pdStopRecTour : decodeD Config.default
    [0xFF, 0x01, 0x00, 0x21, 0x00, 0x05, 0x27] = .ok (.pdStopRecTour 0x01 0x05) := by decide
theorem test_decode_pdStartTour : decodeD Config.default
    [0xFF, 0x01, 0x00, 0x23, 0x00, 0x05, 0x29] = .ok (.pdStartTour 0x01 0x05) := by decide
theorem test_decode_pdSetZoomSpeed : decodeD Config.default
    [0xFF, 0x01, 0x00, 0x25, 0x00, 0x05, 0x2B] = .ok (.pdSetZoomSpeed 0x01 0x05) := by decide
theorem test_decode_pdExtUnknown : decodeD Config.default
    [0xFF, 0x01, 0x00, 0x03, 0x01, 0x05, 0x0A] = .ok (.pdExtUnknown 0x01 0x00 0x03 0x01 0x05) := by
  decide
-- the examples of R101, R114 to R123
theorem test_decode_ppStd : decodeTableWord 64 0x2D_AF_00_20_02_00_00_A0 =
    some (.ppStd 0x00 0x00 0x02 0x20 0x00) := by decide
theorem test_decode_ppSetPreset : decodeP Config.default
    [0xA0, 0x00, 0x00, 0x03, 0x00, 0x05, 0xAF, 0x09] = .ok (.ppSetPreset 0x00 0x05) := by decide
theorem test_decode_ppClearPreset : decodeP Config.default
    [0xA0, 0x00, 0x00, 0x05, 0x00, 0x05, 0xAF, 0x0F] = .ok (.ppClearPreset 0x00 0x05) := by decide
theorem test_decode_ppGotoPreset : decodeP Config.default
    [0xA0, 0x00, 0x00, 0x07, 0x00, 0x05, 0xAF, 0x0D] = .ok (.ppGotoPreset 0x00 0x05) := by decide
theorem test_decode_ppSetAux : decodeP Config.default
    [0xA0, 0x00, 0x00, 0x09, 0x00, 0x05, 0xAF, 0x03] = .ok (.ppSetAux 0x00 0x05) := by decide
theorem test_decode_ppClearAux : decodeP Config.default
    [0xA0, 0x00, 0x00, 0x0B, 0x00, 0x05, 0xAF, 0x01] = .ok (.ppClearAux 0x00 0x05) := by decide
theorem test_decode_ppStartRecTour : decodeP Config.default
    [0xA0, 0x00, 0x00, 0x1F, 0x00, 0x05, 0xAF, 0x15] = .ok (.ppStartRecTour 0x00 0x05) := by decide
theorem test_decode_ppStopRecTour : decodeP Config.default
    [0xA0, 0x00, 0x00, 0x21, 0x00, 0x05, 0xAF, 0x2B] = .ok (.ppStopRecTour 0x00 0x05) := by decide
theorem test_decode_ppStartTour : decodeP Config.default
    [0xA0, 0x00, 0x00, 0x23, 0x00, 0x05, 0xAF, 0x29] = .ok (.ppStartTour 0x00 0x05) := by decide
theorem test_decode_ppSetZoomSpeed : decodeP Config.default
    [0xA0, 0x00, 0x00, 0x25, 0x00, 0x05, 0xAF, 0x2F] = .ok (.ppSetZoomSpeed 0x00 0x05) := by decide
theorem test_decode_ppExtUnknown : decodeP Config.default
    [0xA0, 0x00, 0x00, 0x03, 0x01, 0x05, 0xAF, 0x08] = .ok (.ppExtUnknown 0x00 0x00 0x03 0x01 0x05) := by
  decide
-- the examples of R127, R129, R132 to R139, R128 and R141
theorem test_decode_boschShort : decodeTableWord 24 0x16_14_82 = some (.boschShort [0x14]) ∧
    decodeB Config.default [0x81, 0x01] = .ok (.boschShort []) := by decide
theorem test_decode_boschVarSpeed : decodeTableWord 64 0x12_03_02_01_05_00_00_87 =
    some (.boschVarSpeed 0x00 0x00 0x01 0x02 0x03 []) := by decide
theorem test_decode_boschAuxOn : decodeTableWord 48 0x0D_01_07_00_00_85 =
    some (.boschAuxOn 0x00 0x00 0x01 []) := by decide
theorem test_decode_boschAuxOff : decodeB Config.default
    [0x85, 0x00, 0x00, 0x07, 0x02, 0x0E] = .ok (.boschAuxOff 0x00 0x00 0x02 []) := by decide
theorem test_decode_boschPresetSet : decodeB Config.default
    [0x85, 0x00, 0x00, 0x07, 0x04, 0x10] = .ok (.boschPresetSet 0x00 0x00 0x04 []) := by decide
theorem test_decode_boschPresetShot : decodeB Config.default
    [0x85, 0x00, 0x00, 0x07, 0x05, 0x11] = .ok (.boschPresetShot 0x00 0x00 0x05 []) := by decide
theorem test_decode_boschCancelLatchingAux : decodeB Config.default
    [0x85, 0x00, 0x00, 0x07, 0x08, 0x14] = .ok (.boschCancelLatchingAux 0x00 0x00 0x08 []) := by decide
theorem test_decode_boschLatchingAuxOn : decodeB Config.default
    [0x85, 0x00, 0x00, 0x07, 0x09, 0x15] = .ok (.boschLatchingAuxOn 0x00 0x00 0x09 []) := by decide
theorem test_decode_boschLatchingAuxOff : decodeB Config.default
    [0x85, 0x00, 0x00, 0x07, 0x0A, 0x16] = .ok (.boschLatchingAuxOff 0x00 0x00 0x0A []) := by decide
theorem test_decode_boschAuxUnknownFn : decodeB Config.default
    [0x85, 0x00, 0x00, 0x07, 0x03, 0x0F] = .ok (.boschAuxUnknownFn 0x00 0x00 0x03 []) := by decide
theorem test_decode_boschOp : decodeB Config.default
    [0x85, 0x00, 0x00, 0x05, 0x01, 0x0B] = .ok (.boschOp 0x00 0x00 0x05 [0x01]) := by decide
theorem test_decode_boschUnknownOp : decodeB Config.default
    [0x84, 0x00, 0x00, 0x1A, 0x1E] = .ok (.boschUnknownOp 0x00 0x00 0x1A []) := by decide

/-! ### The decoders reject by name -/

-- R77, R80, R83: a wrong checksum byte; R78: no end byte; R74, R81: no sync or header, a wrong length
theorem test_reject_checksum :
    decodeD Config.default [0xFF, 0x01, 0x00, 0x02, 0x20, 0x00, 0x24] = .error .checksum ∧
    decodeP Config.default [0xA0, 0x00, 0x00, 0x02, 0x20, 0x00, 0xAF, 0x2C] = .error .checksum ∧
    decodeB Config.default [0x80] = .error .checksum := by decide
theorem test_reject_structure :
    decodeP Config.default [0xA0, 0x00, 0x00, 0x02, 0x20, 0x00, 0xAE, 0x2C] = .error .endByte ∧
    decodeD Config.default [0xFE, 0x01, 0x00, 0x02, 0x20, 0x00, 0x23] = .error .sync ∧
    decodeB Config.default [0x05, 0x00] = .error .sync ∧
    decodeB Config.default [0x85, 0x00] = .error .length ∧
    decodeTableWord 10 0b00_0000_0000 = none ∧ decodeTableWord 16 0x0400 = none := by decide
-- R76: with the legacy parameter (0xFF + 0x01 + 0x02 + 0x20) mod 255 = 0x23, (0xFF + 0xFF) mod 255 = 0
theorem test_legacy_checksum :
    cksumD true 0xFF 0x01 0x00 0x02 0x20 0x00 = 0x23 ∧ cksumD true 0xFF 0xFF 0x00 0x00 0x00 0x00 = 0x00 ∧
    cksumD false 0xFF 0xFF 0x00 0x00 0x00 0x00 = 0xFF := by decide

/-! ### One step of every instruction: the kind and the camera id of the rule's example -/

-- R66: the byte is in all three windows; R71: 0x7F is no header
theorem test_step_ingest : ((nextOf (step (State.reset.withFetchWord 10 0x17F))).winD,
    (nextOf (step (State.reset.withFetchWord 10 0x17F))).winP,
    (nextOf (step (State.reset.withFetchWord 10 0x17F))).winB) = ([0x7F], [0x7F], [0x7F]) := by decide
-- V-RST: six bytes, then a reset; the byte of the reset's transaction is not taken (R162)
theorem test_step_reset : (nextOf (step { State.reset with
      winD := frD.dropLast, winP := frD.dropLast, winB := [0xFF], pos := 6,
      input := [⟨true, true, 0x23⟩] })) = State.reset := by decide
theorem test_step_pdStd : told (afterFrame .pelcoD frD).evD =
    some (.pelcoStd .pos 0x20 .stop 0x00 .stop .stop .stop, some 1) := by decide
theorem test_step_pdStd_uses_up : (afterFrame .pelcoD frD).winD = [] ∧
    (afterFrame .pelcoD frD).evD.map Event.raw = some frD := by decide
theorem test_step_pdSetPreset : told (afterFrame .pelcoD
    [0xFF, 0x01, 0x00, 0x03, 0x00, 0x05, 0x09]).evD = some (.pelcoExt .setPreset 5, some 1) := by decide
theorem test_step_pdClearPreset : told (afterFrame .pelcoD
    [0xFF, 0x01, 0x00, 0x05, 0x00, 0x05, 0x0B]).evD = some (.pelcoExt .clearPreset 5, some 1) := by decide
theorem test_step_pdGotoPreset : told (afterFrame .pelcoD
    [0xFF, 0x01, 0x00, 0x07, 0x00, 0x05, 0x0D]).evD = some (.pelcoExt .gotoPreset 5, some 1) := by decide
theorem test_step_pdSetAux : told (afterFrame .pelcoD
    [0xFF, 0x01, 0x00, 0x09, 0x00, 0x05, 0x0F]).evD = some (.pelcoExt .setAux 5, some 1) := by decide
theorem test_step_pdClearAux : told (afterFrame .pelcoD
    [0xFF, 0x01, 0x00, 0x0B, 0x00, 0x05, 0x11]).evD = some (.pelcoExt .clearAux 5, some 1) := by decide
theorem test_step_pdStartRecTour : told (afterFrame .pelcoD
    [0xFF, 0x01, 0x00, 0x1F, 0x00, 0x05, 0x25]).evD = some (.pelcoExt .startRecordingTour 5, some 1) := by
  decide
theorem test_step_pdStopRecTour : told (afterFrame .pelcoD
    [0xFF, 0x01, 0x00, 0x21, 0x00, 0x05, 0x27]).evD = some (.pelcoExt .stopRecordingTour 5, some 1) := by
  decide
theorem test_step_pdStartTour : told (afterFrame .pelcoD
    [0xFF, 0x01, 0x00, 0x23, 0x00, 0x05, 0x29]).evD = some (.pelcoExt .startTour 5, some 1) := by decide
theorem test_step_pdSetZoomSpeed : told (afterFrame .pelcoD
    [0xFF, 0x01, 0x00, 0x25, 0x00, 0x05, 0x2B]).evD = some (.pelcoExt .setZoomSpeed 5, some 1) := by
  decide
theorem test_step_pdExtUnknown : told (afterFrame .pelcoD
    [0xFF, 0x01, 0x00, 0x03, 0x01, 0x05, 0x0A]).evD = some (.pelcoExtUnknown 0x00 0x03 0x01 0x05, some 1) := by
  decide
theorem test_step_ppStd : told (afterFrame .pelcoP frP).evP =
    some (.pelcoStd .pos 0x20 .stop 0x00 .stop .stop .stop, some 1) := by decide
theorem test_step_ppSetPreset : told (afterFrame .pelcoP
    [0xA0, 0x00, 0x00, 0x03, 0x00, 0x05, 0xAF, 0x09]).evP = some (.pelcoExt .setPreset 5, some 1) := by
  decide
theorem test_step_ppClearPreset : told (afterFrame .pelcoP
    [0xA0, 0x00, 0x00, 0x05, 0x00, 0x05, 0xAF, 0x0F]).evP = some (.pelcoExt .clearPreset 5, some 1) := by
  decide
theorem test_step_ppGotoPreset : told (afterFrame .pelcoP
    [0xA0, 0x00, 0x00, 0x07, 0x00, 0x05, 0xAF, 0x0D]).evP = some (.pelcoExt .gotoPreset 5, some 1) := by
  decide
theorem test_step_ppSetAux : told (afterFrame .pelcoP
    [0xA0, 0x00, 0x00, 0x09, 0x00, 0x05, 0xAF, 0x03]).evP = some (.pelcoExt .setAux 5, some 1) := by decide
theorem test_step_ppClearAux : told (afterFrame .pelcoP
    [0xA0, 0x00, 0x00, 0x0B, 0x00, 0x05, 0xAF, 0x01]).evP = some (.pelcoExt .clearAux 5, some 1) := by
  decide
theorem test_step_ppStartRecTour : told (afterFrame .pelcoP
    [0xA0, 0x00, 0x00, 0x1F, 0x00, 0x05, 0xAF, 0x15]).evP
      = some (.pelcoExt .startRecordingTour 5, some 1) := by decide
theorem test_step_ppStopRecTour : told (afterFrame .pelcoP
    [0xA0, 0x00, 0x00, 0x21, 0x00, 0x05, 0xAF, 0x2B]).evP
      = some (.pelcoExt .stopRecordingTour 5, some 1) := by decide
theorem test_step_ppStartTour : told (afterFrame .pelcoP
    [0xA0, 0x00, 0x00, 0x23, 0x00, 0x05, 0xAF, 0x29]).evP = some (.pelcoExt .startTour 5, some 1) := by
  decide
theorem test_step_ppSetZoomSpeed : told (afterFrame .pelcoP
    [0xA0, 0x00, 0x00, 0x25, 0x00, 0x05, 0xAF, 0x2F]).evP = some (.pelcoExt .setZoomSpeed 5, some 1) := by
  decide
theorem test_step_ppExtUnknown : told (afterFrame .pelcoP
    [0xA0, 0x00, 0x00, 0x03, 0x01, 0x05, 0xAF, 0x08]).evP
      = some (.pelcoExtUnknown 0x00 0x03 0x01 0x05, some 1) := by decide
theorem test_step_boschShort : told (afterFrame .bosch [0x81, 0x01]).evB = some (.boschShort, none) := by
  decide
theorem test_step_boschVarSpeed : told (afterFrame .bosch
    [0x87, 0x00, 0x00, 0x05, 0x01, 0x02, 0x03, 0x12]).evB
      = some (.boschVarSpeed (Config.boschVsDecode 1 2 3), some 1) := rfl
theorem test_step_boschAuxOn : told (afterFrame .bosch frB).evB = some (.boschAux .auxOn, some 1) := by
  decide
theorem test_step_boschAuxOn_keeps : (afterFrame .bosch frB).winB = frB := by decide
theorem test_step_boschAuxOff : told (afterFrame .bosch
    [0x85, 0x00, 0x00, 0x07, 0x02, 0x0E]).evB = some (.boschAux .auxOff, some 1) := by decide
theorem test_step_boschPresetSet : told (afterFrame .bosch
    [0x85, 0x00, 0x00, 0x07, 0x04, 0x10]).evB = some (.boschAux .presetSet, some 1) := by decide
theorem test_step_boschPresetShot : told (afterFrame .bosch
    [0x85, 0x00, 0x00, 0x07, 0x05, 0x11]).evB = some (.boschAux .presetShot, some 1) := by decide
theorem test_step_boschCancelLatchingAux : told (afterFrame .bosch
    [0x85, 0x00, 0x00, 0x07, 0x08, 0x14]).evB = some (.boschAux .cancelLatchingAux, some 1) := by decide
theorem test_step_boschLatchingAuxOn : told (afterFrame .bosch
    [0x85, 0x00, 0x00, 0x07, 0x09, 0x15]).evB = some (.boschAux .latchingAuxOn, some 1) := by decide
theorem test_step_boschLatchingAuxOff : told (afterFrame .bosch
    [0x85, 0x00, 0x00, 0x07, 0x0A, 0x16]).evB = some (.boschAux .latchingAuxOff, some 1) := by decide
theorem test_step_boschAuxUnknownFn : told (afterFrame .bosch
    [0x85, 0x00, 0x00, 0x07, 0x03, 0x0F]).evB = some (.boschAuxUnknownFn 3, some 1) := by decide
theorem test_step_boschOp : told (afterFrame .bosch
    [0x85, 0x00, 0x00, 0x05, 0x01, 0x0B]).evB = some (.boschOp 0x05, some 1) := by decide
theorem test_step_boschUnknownOp : told (afterFrame .bosch
    [0x84, 0x00, 0x00, 0x1A, 0x1E]).evB = some (.boschUnknownOp 0x1A, some 1) := by decide

/-! ### The rest of the machine -/

-- R61, R98: both pan flags set; R95: address 0xFF is camera 255; R96: on lane P it is 256
theorem test_ambiguous_axis : axisState 0x00 0x06 defaultPdBitmap.pan = .ambiguous := by decide
theorem test_camera_edges : (cameraD 0xFF).toNat = 255 ∧ (cameraP 0xFF).toNat = 256 ∧
    (cameraB 0x7F 0x7F).toNat = 16384 ∧ (cameraB 0x01 0x00).toNat = 129 := by decide
-- the table word of R100's example, placed and run
theorem test_fetch_word : told (nextOf (step (State.reset.withFetchWord 56 0x23_00_20_02_00_01_FF))).evD =
    some (.pelcoStd .pos 0x20 .stop 0x00 .stop .stop .stop, some 1) := by decide
-- R62: the rendering of the first bytes of its example
theorem test_render : renderRaw [0xFF, 0x01, 0x2A] =
    ['[', 'f', 'f', ']', '[', '0', '1', ']', '[', '2', 'a', ']'] := by decide
-- R63: the expansions, with the checksums of the examples of R100, R101 and R134
theorem test_stream : expandProgram [.pd 0x01 0x00 0x02 0x20 0x00 none, .reset] =
      offers frD ++ [⟨true, false, 0x00⟩] ∧
    Line.expand (.pp 0x00 0x00 0x02 0x20 0x00 (some 0x00)) = offers (frP.dropLast ++ [0x00]) ∧
    Line.expand (.bosch 0x00 0x00 0x07 [0x04]) = offers [0x85, 0x00, 0x00, 0x07, 0x04, 0x10] := by decide
-- R60, R156: codes
theorem test_codes : (laneCode .D, laneCode .P, laneCode .B) = (0, 1, 2) ∧
    axisCode .ambiguous = 3 ∧ extActCode .setZoomSpeed = 8 ∧ kindCode .boschShort = 9 := by decide
-- V-BO-N1: with 0x02 among the named op-codes, a 0x02 frame is BoschOp
theorem test_named_op (h : Config.boschNamedOpen 0x02 = true) :
    decodeB Config.default [0x84, 0x00, 0x00, 0x02, 0x06] = .ok (.boschOp 0x00 0x00 0x02 []) := by
  have hn : boschNamed 0x02 = true := h
  show Except.ok (if boschNamed 0x02 then Instr.boschOp 0 0 2 [] else .boschUnknownOp 0 0 2 []) = _
  rw [hn]; rfl

/-! ### Witnesses: the hypotheses of the statements are met -/

theorem test_witness_extended_actions :
    (Instr.pdSetPreset 1 5, ExtAct.setPreset) ∈ [(Instr.pdSetPreset 1 5, ExtAct.setPreset),
      (.pdClearPreset 1 5, .clearPreset), (.pdGotoPreset 1 5, .gotoPreset), (.pdSetAux 1 5, .setAux),
      (.pdClearAux 1 5, .clearAux), (.pdStartRecTour 1 5, .startRecordingTour),
      (.pdStopRecTour 1 5, .stopRecordingTour), (.pdStartTour 1 5, .startTour),
      (.pdSetZoomSpeed 1 5, .setZoomSpeed)] ∧
    (Instr.ppSetZoomSpeed 1 5, ExtAct.setZoomSpeed) ∈ [(Instr.ppSetPreset 1 5, ExtAct.setPreset),
      (.ppClearPreset 1 5, .clearPreset), (.ppGotoPreset 1 5, .gotoPreset), (.ppSetAux 1 5, .setAux),
      (.ppClearAux 1 5, .clearAux), (.ppStartRecTour 1 5, .startRecordingTour),
      (.ppStopRecTour 1 5, .stopRecordingTour), (.ppStartTour 1 5, .startTour),
      (.ppSetZoomSpeed 1 5, .setZoomSpeed)] := by decide
/-- BoschAuxFunctionEvents, with the address bytes at both ends of their range. -/
theorem test_witness_BoschAuxFunctionEvents : low7 0x00 = true ∧ low7 0x7F = true ∧
    (Instr.boschLatchingAuxOff 0x00 0x7F 0x0A [], AuxFn.latchingAuxOff) ∈
      [(Instr.boschAuxOn 0x00 0x7F 0x0A [], AuxFn.auxOn), (.boschAuxOff 0x00 0x7F 0x0A [], .auxOff),
      (.boschPresetSet 0x00 0x7F 0x0A [], .presetSet), (.boschPresetShot 0x00 0x7F 0x0A [], .presetShot),
      (.boschCancelLatchingAux 0x00 0x7F 0x0A [], .cancelLatchingAux),
      (.boschLatchingAuxOn 0x00 0x7F 0x0A [], .latchingAuxOn),
      (.boschLatchingAuxOff 0x00 0x7F 0x0A [], .latchingAuxOff)] := by decide
/-- BoschUnknownFunctionEvent, BoschVariableSpeedEvent, BoschOpCodeEvents: 7-bit bytes. -/
theorem test_witness_bosch_bytes : low7 0x00 = true ∧ low7 0x7F = true ∧ low7 0x1A = true := by decide
/-- StepRunsTheOfferedTransaction: an INGEST and a RESET offered. -/
theorem test_witness_StepRunsTheOfferedTransaction :
    (offered [0xA5]).input = offer 0xA5 :: [] ∧ decodeTransaction (offer 0xA5) = .ok (.ingest 0xA5) ∧
    decodeTransaction ⟨true, true, 0xA5⟩ = .ok (.reset true 0xA5) := by decide
/-- StepRunsTheDecodedFrames: a byte offered; a frame in each lane's window. -/
theorem test_witness_StepRunsTheDecodedFrames : (offered [0xA5]).input = offer 0xA5 :: [] ∧
    State.decodeLane { State.reset with winD := frD } .D = .ok (.pdStd 0x01 0x00 0x02 0x20 0x00) ∧
    State.decodeLane { State.reset with winP := frP } .P = .ok (.ppStd 0x00 0x00 0x02 0x20 0x00) ∧
    State.decodeLane { State.reset with winB := frB } .B = .ok (.boschAuxOn 0x00 0x00 0x01 []) := by decide
/-- NothingOfferedChangesNothing and ResetWinsOverTheOfferedByte. -/
theorem test_witness_inputs : State.reset.input = [] ∧
    (State.input { State.reset with input := [⟨false, false, 0xFF⟩] }) = ⟨false, false, 0xFF⟩ :: [] ∧
    (State.input { State.reset with input := [⟨true, true, 0xFF⟩] }) = ⟨true, true, 0xFF⟩ :: [] := by decide
/-- PlacedInstructionRunsNext and EncodingsHaveTheFrameFormats: an instruction of each format. -/
theorem test_witness_formats : (Instr.ingest 0xFF).format = .transaction ∧
    (Instr.pdStd 0xFF 0xFF 0xFE 0xFF 0xFF).wf = true ∧
    (Instr.pdStd 0xFF 0xFF 0xFE 0xFF 0xFF).format = .pelcoD ∧
    (Instr.ppExtUnknown 0xFF 0xFF 0xFF 0xFF 0xFF).wf = true ∧
    (Instr.ppExtUnknown 0xFF 0xFF 0xFF 0xFF 0xFF).format = .pelcoP ∧
    (Instr.boschShort [0x7F, 0x7F]).wf = true ∧ (Instr.boschShort []).format = .bosch := by decide
set_option maxRecDepth 8000 in
/-- DecodeEncodeAgree: the longest Bosch commands and the last op-codes before a neighbour's. -/
theorem test_witness_DecodeEncodeAgree :
    (Instr.boschVarSpeed 0x7F 0x7F 0x7F 0x7F 0x7F (List.replicate 120 0x7F)).wf = true ∧
    (Instr.boschAuxOn 0x7F 0x7F 0x71 (List.replicate 122 0x7F)).wf = true ∧
    (Instr.boschOp 0 0 0x05 [0, 0]).wf = true ∧ (Instr.boschOp 0 0 0x07 []).wf = true ∧
    (Instr.boschUnknownOp 0 0 0x1A (List.replicate 123 0)).wf = true := by decide
/-- AcceptedFramesAreTheirEncoding, BoschSuccessKeepsTheWindow, BoschFrameIsAlwaysDetected,
PelcoDFrameDetection, PelcoPFrameDetection: a valid frame of each lane, and a state that offers it. -/
theorem test_witness_valid_frames :
    decodeD Config.default frD = .ok (.pdStd 0x01 0x00 0x02 0x20 0x00) ∧
    decodeP Config.default frP = .ok (.ppStd 0x00 0x00 0x02 0x20 0x00) ∧
    decodeB Config.default frB = .ok (.boschAuxOn 0x00 0x00 0x01 []) ∧ tailLow frB = true ∧
    (offered frD).wf = true ∧ (offered frD).input = offers frD ++ [] ∧
    (offered frP).wf = true ∧ (offered frP).input = offers frP ++ [] ∧
    (offered frB).input = offers frB ++ [] := by decide
/-- ChecksumsDecideAcceptance, LegacyChecksum: each lane, lane B with the shortest declared length too. -/
theorem test_witness_ChecksumsDecideAcceptance : Config.default.pdCksumLegacy = false ∧
    (Config.pdCksumLegacy { Config.default with pdCksumLegacy := true }) = true ∧ frD.length = 7 ∧ frD.getD 0 0 = 0xFF ∧
    frP.length = 8 ∧ frP.getD 0 0 = 0xA0 ∧ frP.getD 6 0 = 0xAF ∧
    frB.length = 5 + 1 ∧ (frB.getD 0 0).toNat = 128 + 5 ∧
    [(0x80 : Byte)].length = 0 + 1 ∧ ([(0x80 : Byte)].getD 0 0).toNat = 128 + 0 := by decide
/-- CorruptedChecksumIsReported: each lane with one bit of its checksum byte flipped; 0x8D is frB's
checksum with bit 7 flipped. -/
theorem test_witness_CorruptedChecksumIsReported :
    decodeD Config.default frD = .ok (.pdStd 0x01 0x00 0x02 0x20 0x00) ∧
    frD.getLast? ≠ some 0x22 ∧ (State.winD { State.reset with winD := frD.dropLast }) = frD.dropLast ∧
    decodeP Config.default frP = .ok (.ppStd 0x00 0x00 0x02 0x20 0x00) ∧
    frP.getLast? ≠ some 0xAD ∧ (State.winP { State.reset with winP := frP.dropLast }) = frP.dropLast ∧
    decodeB Config.default frB = .ok (.boschAuxOn 0x00 0x00 0x01 []) ∧ frB.getLast? ≠ some 0x4D ∧
    low7 0x4D = true ∧ (State.winB { State.reset with winB := frB.dropLast }) = frB.dropLast ∧
    low7 0x8D = false := by decide
set_option maxRecDepth 8000 in
/-- NoStructuralMatchIsSilent: empty windows, and full ones with one condition failing. -/
theorem test_witness_NoStructuralMatchIsSilent :
    ¬ (State.reset.fillD = 7 ∧ State.reset.winD.getD 0 0 = 0xFF) ∧
    ¬ (State.fillP { State.reset with winP := List.replicate 8 0xA0 } = 8 ∧
      (State.winP { State.reset with winP := List.replicate 8 0xA0 }).getD 0 0 = 0xA0 ∧
      (State.winP { State.reset with winP := List.replicate 8 0xA0 }).getD 6 0 = 0xAF) ∧
    ¬ (1 ≤ (frB ++ [0x00]).length ∧ 128 ≤ ((frB ++ [0x00]).getD 0 0).toNat ∧
      (frB ++ [0x00]).length = ((frB ++ [0x00]).getD 0 0).toNat % 128 + 1) := by decide
/-- PelcoSuccessUsesUpItsBytes: a frame in the window; empty windows, and a step to take. -/
theorem test_witness_PelcoSuccessUsesUpItsBytes :
    decodeD Config.default frD = .ok (.pdStd 0x01 0x00 0x02 0x20 0x00) ∧
    decodeP Config.default frP = .ok (.ppStd 0x00 0x00 0x02 0x20 0x00) ∧
    (offered frD).winD = [] ∧ (offered frP).winP = [] ∧ 1 ≤ 7 ∧
    takenBytes (offered frD).input = frD := by decide
set_option maxRecDepth 8000 in
/-- WindowHoldsTheLatestBytes and BoschWindowBeginsAtTheLatestHeader: full windows, 127 bytes. -/
theorem test_witness_windows : 0 < 7 ∧ frD.length ≤ 7 ∧ low7 0x80 = false ∧
    allLow7 (List.replicate 127 0x7F) = true ∧ (List.replicate 127 (0x7F : Byte)).length ≤ 127 := by decide
set_option maxRecDepth 8000 in
/-- StepKeepsTheWindowForm, StepKeepsTheStateSound, EventsLeaveInLaneOrder, ParametersAreConstant: a
sound state with a full lane B window, and its next state. -/
theorem test_witness_invariants :
    (State.wf { State.reset with winB := List.replicate 128 0x7F, input := [offer 0x01] }) = true ∧
    (State.sound { State.reset with winB := List.replicate 128 0x7F, input := [offer 0x01] }) = true := by
  decide
theorem test_witness_steps :
    step (offered [0x01]) = .next (nextOf (step (offered [0x01]))) ∧
    Host.Core.run core 1 (offered [0x01]) = .next (nextOf (step (offered [0x01]))) := ⟨rfl, rfl⟩
/-- LanesDoNotInterfere: two states that agree on lane D only. -/
theorem test_witness_LanesDoNotInterfere :
    (State.window { offered frD with winP := frP, winB := frB, pos := 9 } .D) = (offered frD).window .D ∧
    (State.cfg { offered frD with winP := frP, winB := frB, pos := 9 }) = (offered frD).cfg ∧
    (State.input { offered frD with winP := frP, winB := frB, pos := 9 }) = (offered frD).input ∧
    0 < 7 := ⟨rfl, rfl, rfl, by decide⟩
/-- ResetForgetsThePast and WaitingIsInvisible: two states that hold different bytes and are offered the
same reset; a state with nothing offered. -/
theorem test_witness_resets : (⟨true, false, 0x00⟩ : Transaction).rst = true ∧
    (State.cfg { State.reset with winD := frD, input := [⟨true, false, 0x00⟩] }) = State.reset.cfg ∧
    (State.input { State.reset with winD := frD, input := [⟨true, false, 0x00⟩] }) =
      ⟨true, false, 0x00⟩ :: [] ∧ 0 < 1 ∧ (State.input { State.reset with winD := frD }) = [] := by decide
set_option maxRecDepth 8000 in
/-- BoschHeaderIsEvaluatedOnce: a window at its declared length, one with no header, full, and bytes
with bit 7 clear offered. -/
theorem test_witness_BoschHeaderIsEvaluatedOnce :
    (State.wf { offered [0x0D, 0x7F] with winB := frB }) = true ∧ low7 (frB.getD 0 0) = false ∧
    (frB.getD 0 0).toNat % 128 + 1 ≤ frB.length ∧
    (State.wf { offered [0x0D, 0x7F] with winB := List.replicate 128 0x00 }) = true ∧
    low7 ((List.replicate 128 (0x00 : Byte)).getD 0 0) ≠ false ∧ allLow7 [0x0D, 0x7F] = true ∧
    (offered [0x0D, 0x7F]).input = offers [0x0D, 0x7F] ++ [] ∧ 1 ≤ 2 ∧
    2 ≤ [(0x0D : Byte), 0x7F].length := by decide
/-- CameraIds: the highest address on each lane; on lane B 0x7F 0x7F, with five bytes. -/
theorem test_witness_CameraIds :
    decodeD Config.default [0xFF, 0xFF, 0x00, 0x02, 0x20, 0x00, 0x21] =
      .ok (.pdStd 0xFF 0x00 0x02 0x20 0x00) ∧
    decodeP Config.default [0xA0, 0xFF, 0x00, 0x02, 0x20, 0x00, 0xAF, 0xD2] =
      .ok (.ppStd 0xFF 0x00 0x02 0x20 0x00) ∧
    decodeB Config.default [0x84, 0x7F, 0x7F, 0x1A, 0x1C] = .ok (.boschUnknownOp 0x7F 0x7F 0x1A []) ∧
    tailLow [0x84, 0x7F, 0x7F, 0x1A, 0x1C] = true ∧
    5 ≤ [(0x84 : Byte), 0x7F, 0x7F, 0x1A, 0x1C].length := by decide
/-- ExtendedTableMatchesExactly: a triple in the table and one out of it, on each lane. -/
theorem test_witness_ExtendedTableMatchesExactly :
    decodeD Config.default [0xFF, 0x01, 0x00, 0x03, 0x00, 0x05, 0x09] = .ok (.pdSetPreset 0x01 0x05) ∧
    ([(0xFF : Byte), 0x01, 0x00, 0x03, 0x00, 0x05, 0x09].getD 3 0)[0] = true ∧
    decodeP Config.default [0xA0, 0x00, 0x00, 0x03, 0x01, 0x05, 0xAF, 0x08] =
      .ok (.ppExtUnknown 0x00 0x00 0x03 0x01 0x05) ∧
    ([(0xA0 : Byte), 0x00, 0x00, 0x03, 0x01, 0x05, 0xAF, 0x08].getD 3 0)[0] = true := by decide
/-- UnmappedBitsAreIgnored: bytes that differ in every unmapped bit. -/
theorem test_witness_UnmappedBitsAreIgnored : (0xF8 : Byte) &&& 0x07 = 0x00 &&& 0x07 ∧
    (0xF0 : Byte) &&& 0x0F = 0x00 &&& 0x0F ∧ (0x80 : Byte) &&& 0x7F = 0x00 &&& 0x7F := by decide
/-- BoschDecoderArms, BoschFunctionTable: a frame for each clause, lengths at the arms' boundaries. -/
theorem test_witness_BoschDecoderArms :
    decodeB Config.default [0x83, 0x00, 0x00, 0x03] = .ok (.boschShort [0x00, 0x00]) ∧
    decodeB Config.default [0x86, 0x00, 0x00, 0x05, 0x01, 0x02, 0x0E] =
      .ok (.boschOp 0x00 0x00 0x05 [0x01, 0x02]) ∧
    decodeB Config.default [0x87, 0x00, 0x00, 0x05, 0x01, 0x02, 0x03, 0x12] =
      .ok (.boschVarSpeed 0x00 0x00 0x01 0x02 0x03 []) ∧
    decodeB Config.default [0x84, 0x00, 0x00, 0x07, 0x0B] = .ok (.boschOp 0x00 0x00 0x07 []) ∧
    decodeB Config.default frB = .ok (.boschAuxOn 0x00 0x00 0x01 []) ∧ frB.getD 3 0 = 0x07 ∧
    6 ≤ frB.length ∧
    decodeB Config.default [0x84, 0x00, 0x00, 0x1A, 0x1E] = .ok (.boschUnknownOp 0x00 0x00 0x1A []) := by
  decide

end Sys2Proof.Tests
end

section
/-! The lanes share no state (R19). Two machines with the same parameters and the same input are
compared on one lane: each stage of a step keeps their agreement on that lane, whether the stage
works on the lane itself or on another one. -/

namespace Sys2Proof.Machine

/-! ### Frame commands: the event depends on the state through the parameters only -/

/-- A lane D command has one event for all states with the same parameters (R19, R100). -/
theorem runFrame_pelcoD_uniform (g : Config) (i : Instr) (h : i.format = .pelcoD) :
    ∃ k c, ∀ s : State, s.cfg = g → runFrame i s = .next (s.acceptD k c) := by
  cases i with
  | pdStd a c1 c2 d1 d2 =>
    exact ⟨stdKind g.pdBitmap c1 c2 d1 d2, cameraD a, by rintro s rfl; rfl⟩
  | pdSetPreset | pdClearPreset | pdGotoPreset | pdSetAux | pdClearAux | pdStartRecTour
  | pdStopRecTour | pdStartTour | pdSetZoomSpeed | pdExtUnknown => exact ⟨_, _, fun _ _ => rfl⟩
  | _ => cases h

/-- A lane P command has one event for all states with the same parameters (R19, R101). -/
theorem runFrame_pelcoP_uniform (g : Config) (i : Instr) (h : i.format = .pelcoP) :
    ∃ k c, ∀ s : State, s.cfg = g → runFrame i s = .next (s.acceptP k c) := by
  cases i with
  | ppStd a c1 c2 d1 d2 =>
    exact ⟨stdKind g.ppBitmap c1 c2 d1 d2, cameraP a, by rintro s rfl; rfl⟩
  | ppSetPreset | ppClearPreset | ppGotoPreset | ppSetAux | ppClearAux | ppStartRecTour
  | ppStopRecTour | ppStartTour | ppSetZoomSpeed | ppExtUnknown => exact ⟨_, _, fun _ _ => rfl⟩
  | _ => cases h

/-- A lane B command has one event for all states with the same parameters (R19, R57). -/
theorem runFrame_bosch_uniform (g : Config) (i : Instr) (h : i.format = .bosch) :
    ∃ k c, ∀ s : State, s.cfg = g → runFrame i s = .next (s.acceptB k c) := by
  cases i with
  | boschAuxUnknownFn hi lo d1 =>
    exact ⟨.boschAuxUnknownFn (auxFnCode g.auxFnSel d1), some (cameraB hi lo), by
      rintro s rfl; rfl⟩
  | boschShort | boschVarSpeed | boschAuxOn | boschAuxOff | boschPresetSet | boschPresetShot
  | boschCancelLatchingAux | boschLatchingAuxOn | boschLatchingAuxOff | boschOp
  | boschUnknownOp => exact ⟨_, _, fun _ _ => rfl⟩
  | _ => cases h

/-! ### A detector changes nothing of another lane -/

theorem sameButLane_refl (l : Lane) (s : State) : sameButLane l s s :=
  ⟨fun _ _ => ⟨rfl, rfl⟩, rfl, rfl, rfl⟩

theorem sameButLane_acceptD (s : State) (k : Kind) (c : BitVec 15) :
    sameButLane .D s (s.acceptD k c) :=
  ⟨fun m hm => by cases m <;> simp_all [State.port], rfl, rfl, rfl⟩

theorem sameButLane_acceptP (s : State) (k : Kind) (c : BitVec 15) :
    sameButLane .P s (s.acceptP k c) :=
  ⟨fun m hm => by cases m <;> simp_all [State.port], rfl, rfl, rfl⟩

theorem sameButLane_acceptB (s : State) (k : Kind) (c : Option (BitVec 15)) :
    sameButLane .B s (s.acceptB k c) :=
  ⟨fun m hm => by cases m <;> simp_all [State.port], rfl, rfl, rfl⟩

theorem sameButLane_reportMismatch (l : Lane) (s : State) :
    sameButLane l s (s.reportMismatch l) := by
  obtain ⟨hD, hP, hB, hpos, hinput, hcfg⟩ := s.reportMismatch_frame l
  refine ⟨fun m hm => ⟨?_, ?_⟩, hpos, hinput, hcfg⟩
  · cases m <;> assumption
  · cases l <;> cases m <;> simp_all [State.port]

/-- Every detector completes, and touches its own lane's window and port only (R19, R142). -/
theorem detect_sameButLane (l : Lane) (s : State) :
    ∃ t, detect l s = .next t ∧ sameButLane l s t := by
  cases l with
  | D =>
    obtain ⟨-, k, c, -, -, -, -, hd⟩ | ⟨-, hd⟩ | ⟨-, -, hd⟩ := detectD_cases s
    · exact ⟨_, hd, sameButLane_acceptD s k c⟩
    · exact ⟨_, hd, sameButLane_reportMismatch .D s⟩
    · exact ⟨_, hd, sameButLane_refl .D s⟩
  | P =>
    obtain ⟨-, k, c, -, -, -, -, hd⟩ | ⟨-, hd⟩ | ⟨-, -, hd⟩ := detectP_cases s
    · exact ⟨_, hd, sameButLane_acceptP s k c⟩
    · exact ⟨_, hd, sameButLane_reportMismatch .P s⟩
    · exact ⟨_, hd, sameButLane_refl .P s⟩
  | B =>
    obtain ⟨-, k, c, -, -, -, -, hd⟩ | ⟨-, hd⟩ | ⟨-, -, hd⟩ := detectB_cases s
    · exact ⟨_, hd, sameButLane_acceptB s k c⟩
    · exact ⟨_, hd, sameButLane_reportMismatch .B s⟩
    · exact ⟨_, hd, sameButLane_refl .B s⟩

/-! ### Agreement of two machines on one lane -/

/-- Agreement on all that lane `l` may read: the parameters, the input and its own window. -/
structure LaneReadsAgree (l : Lane) (s t : State) : Prop where
  cfg : s.cfg = t.cfg
  input : s.input = t.input
  window : s.window l = t.window l

/-- Agreement on lane `l`: on what it may read, and on its own port. -/
structure LaneAgree (l : Lane) (s t : State) : Prop extends LaneReadsAgree l s t where
  port : s.port l = t.port l

/-- Both answers are next states, and these agree on lane `l`. -/
def ResultsAgree (l : Lane) (r q : Result) : Prop :=
  ∃ s t, r = .next s ∧ q = .next t ∧ LaneAgree l s t

theorem LaneAgree.next {l : Lane} {s t : State} (h : LaneAgree l s t) :
    ResultsAgree l (.next s) (.next t) :=
  ⟨s, t, rfl, rfl, h⟩

/-- Running in sequence keeps agreement. -/
theorem ResultsAgree.andThen {l : Lane} {r q : Result} {k : State → Result}
    (h : ResultsAgree l r q)
    (hk : ∀ s t, LaneAgree l s t → ResultsAgree l (k s) (k t)) :
    ResultsAgree l (Machine.andThen r k) (Machine.andThen q k) := by
  obtain ⟨s, t, rfl, rfl, hst⟩ := h
  exact hk s t hst

/-- Work on another lane keeps agreement. -/
theorem LaneAgree.of_sameButLane {l m : Lane} {s t s' t' : State} (h : LaneAgree l s t)
    (hlm : l ≠ m) (hs : sameButLane m s s') (ht : sameButLane m t t') : LaneAgree l s' t' := by
  obtain ⟨hsl, -, hsi, hsc⟩ := hs
  obtain ⟨htl, -, hti, htc⟩ := ht
  obtain ⟨hsw, hsp⟩ := hsl l hlm
  obtain ⟨htw, htp⟩ := htl l hlm
  exact ⟨⟨by rw [hsc, htc, h.cfg], by rw [hsi, hti, h.input], by rw [hsw, htw, h.window]⟩,
    by rw [hsp, htp, h.port]⟩

/-! ### The lane's own detector -/

theorem LaneReadsAgree.decodeLane {l : Lane} {s t : State} (h : LaneReadsAgree l s t) :
    s.decodeLane l = t.decodeLane l := by
  have hw := h.window
  cases l <;> simp only [State.window_D, State.window_P, State.window_B] at hw <;>
    simp only [State.decodeLane, h.cfg, hw]

theorem LaneAgree.acceptD {s t : State} (h : LaneAgree .D s t) (k : Kind) (c : BitVec 15) :
    LaneAgree .D (s.acceptD k c) (t.acceptD k c) :=
  ⟨⟨h.cfg, h.input, rfl⟩,
    congrArg (fun w => some (Event.mk .D k (some c) w)) h.window⟩

theorem LaneAgree.acceptP {s t : State} (h : LaneAgree .P s t) (k : Kind) (c : BitVec 15) :
    LaneAgree .P (s.acceptP k c) (t.acceptP k c) :=
  ⟨⟨h.cfg, h.input, rfl⟩,
    congrArg (fun w => some (Event.mk .P k (some c) w)) h.window⟩

theorem LaneAgree.acceptB {s t : State} (h : LaneAgree .B s t) (k : Kind)
    (c : Option (BitVec 15)) : LaneAgree .B (s.acceptB k c) (t.acceptB k c) :=
  ⟨⟨h.cfg, h.input, h.window⟩,
    congrArg (fun w => some (Event.mk .B k c w)) h.window⟩

theorem LaneAgree.reportMismatch {l : Lane} {s t : State} (h : LaneAgree l s t) :
    LaneAgree l (s.reportMismatch l) (t.reportMismatch l) := by
  have hport : some (⟨l, .mismatch, none, s.window l⟩ : Event) =
      some ⟨l, .mismatch, none, t.window l⟩ := by rw [h.window]
  cases l <;> exact ⟨⟨h.cfg, h.input, h.window⟩, hport⟩

/-- The frame that the lane decoded has the same meaning on the lane in both machines. -/
theorem LaneAgree.runFrame {l : Lane} {s t : State} (h : LaneAgree l s t) {i : Instr}
    (hi : s.decodeLane l = .ok i) :
    ResultsAgree l (Machine.runFrame i s) (Machine.runFrame i t) := by
  cases l with
  | D =>
    obtain ⟨k, c, hr⟩ := runFrame_pelcoD_uniform t.cfg i (decodeD_format _ _ _ hi)
    exact ⟨_, _, hr s h.cfg, hr t rfl, h.acceptD k c⟩
  | P =>
    obtain ⟨k, c, hr⟩ := runFrame_pelcoP_uniform t.cfg i (decodeP_format _ _ _ hi)
    exact ⟨_, _, hr s h.cfg, hr t rfl, h.acceptP k c⟩
  | B =>
    obtain ⟨k, c, hr⟩ := runFrame_bosch_uniform t.cfg i (decodeB_format _ _ _ hi)
    exact ⟨_, _, hr s h.cfg, hr t rfl, h.acceptB k c⟩

/-- A lane's detector reads no more than the lane sees (R19, R77, R80, R83). -/
theorem LaneAgree.detect_own {l : Lane} {s t : State} (h : LaneAgree l s t) :
    ResultsAgree l (detect l s) (detect l t) := by
  unfold detect
  rw [← h.decodeLane]
  match hs : s.decodeLane l with
  | .ok _ => exact h.runFrame hs
  | .error .checksum => exact h.reportMismatch.next
  | .error .length | .error .sync | .error .endByte | .error .idle | .error .transaction =>
    exact h.next

/-- Any lane's detector keeps agreement on lane `l`. -/
theorem LaneAgree.detect {l : Lane} (m : Lane) {s t : State} (h : LaneAgree l s t) :
    ResultsAgree l (Machine.detect m s) (Machine.detect m t) := by
  by_cases hlm : l = m
  · subst hlm; exact h.detect_own
  · obtain ⟨s', hs, hs'⟩ := detect_sameButLane m s
    obtain ⟨t', ht, ht'⟩ := detect_sameButLane m t
    exact ⟨s', t', hs, ht, h.of_sameButLane hlm hs' ht'⟩

/-! ### Transactions -/

section
variable {s : State} {x : Transaction} {rest : List Transaction}

theorem step_of_input_nil (h : s.input = []) : step s = .next s.quiet := by
  simp [step, State.fetch, h]

theorem step_of_rst (h : s.input = x :: rest) (hr : x.rst = true) :
    step s = exec (.reset x.inValid x.inByte) { s with input := rest } := by
  simp [step, State.fetch, h, decodeTransaction, hr]

theorem step_of_inValid (h : s.input = x :: rest) (hr : x.rst = false) (hv : x.inValid = true) :
    step s = exec (.ingest x.inByte) { s with input := rest } := by
  simp [step, State.fetch, h, decodeTransaction, hr, hv]

theorem step_of_idle (h : s.input = x :: rest) (hr : x.rst = false) (hv : x.inValid = false) :
    step s = .next (State.quiet { s with input := rest }) := by
  simp [step, State.fetch, h, decodeTransaction, hr, hv]

end

section
variable {l : Lane} {s t : State} (h : LaneReadsAgree l s t)
include h

/-- Taking a transaction from the input leaves every window as it is. -/
theorem LaneReadsAgree.advance (rest : List Transaction) :
    LaneReadsAgree l { s with input := rest } { t with input := rest } :=
  ⟨h.cfg, rfl, by cases l <;> exact h.window⟩

theorem LaneReadsAgree.quiet : LaneAgree l s.quiet t.quiet :=
  ⟨⟨h.cfg, h.input, by cases l <;> exact h.window⟩, by cases l <;> rfl⟩

/-- Each lane's new window is made of its old one and the byte (R65, R69 to R71). -/
theorem LaneReadsAgree.take (b : Byte) : LaneAgree l (s.take b) (t.take b) where
  cfg := h.cfg
  input := h.input
  window := by
    cases l with
    | D => exact congrArg (pushWindow Config.capD · b) h.window
    | P => exact congrArg (pushWindow Config.capP · b) h.window
    | B => exact congrArg (pushWindowB · b) h.window
  port := by cases l <;> rfl

/-- INGEST: the windows take the byte, then each of the three detectors keeps agreement (R66). -/
theorem LaneReadsAgree.ingest (b : Byte) :
    ResultsAgree l (exec (.ingest b) s) (exec (.ingest b) t) := by
  rw [execIngest_eq, execIngest_eq]
  exact (((h.take b).detect .D).andThen fun _ _ h' => h'.detect .P).andThen
    fun _ _ h' => h'.detect .B

/-- RESET leaves nothing in any window (R73). -/
theorem LaneReadsAgree.reset (v : Bool) (b : Byte) :
    ResultsAgree l (exec (.reset v b) s) (exec (.reset v b) t) :=
  ⟨_, _, rfl, rfl, ⟨h.cfg, h.input, by cases l <;> rfl⟩, by cases l <;> rfl⟩

/-- One step: the lane's ports need not agree before it, since every step clears them (R27). -/
theorem LaneReadsAgree.step : ResultsAgree l (Machine.step s) (Machine.step t) := by
  cases hs : s.input with
  | nil =>
    rw [step_of_input_nil hs, step_of_input_nil (h.input ▸ hs)]
    exact h.quiet.next
  | cons x rest =>
    have ht : t.input = x :: rest := h.input ▸ hs
    cases hr : x.rst with
    | true =>
      rw [step_of_rst hs hr, step_of_rst ht hr]
      exact (h.advance rest).reset _ _
    | false =>
      cases hv : x.inValid with
      | true =>
        rw [step_of_inValid hs hr hv, step_of_inValid ht hr hv]
        exact (h.advance rest).ingest _
      | false =>
        rw [step_of_idle hs hr hv, step_of_idle ht hr hv]
        exact (h.advance rest).quiet.next

end

/-! ### Runs -/

theorem runSteps_succ_of_next {s t : State} (h : step s = .next t) (n : Nat) :
    runSteps (n + 1) s = runSteps n t := by
  simp [runSteps, h]

/-- Agreement on a lane lasts for any number of steps. -/
theorem LaneAgree.runSteps {l : Lane} (n : Nat) {s t : State} (h : LaneAgree l s t) :
    LaneAgree l (Machine.runSteps n s) (Machine.runSteps n t) := by
  induction n generalizing s t with
  | zero => exact h
  | succ n ih =>
    obtain ⟨s', t', hs, ht, h'⟩ := h.step
    rw [runSteps_succ_of_next hs, runSteps_succ_of_next ht]
    exact ih h'

/-- Settles O40: the first step makes the ports agree as well, and agreement on a lane lasts. -/
theorem lanesDoNotInterfere : Obligations.LanesDoNotInterfere := by
  intro l n s t hcfg hinput hwin
  cases n with
  | zero => exact ⟨hwin, fun h => absurd h (Nat.lt_irrefl 0)⟩
  | succ n =>
    obtain ⟨s', t', hs, ht, h⟩ := LaneReadsAgree.step ⟨hcfg, hinput, hwin⟩
    rw [runSteps_succ_of_next hs, runSteps_succ_of_next ht]
    exact ⟨(h.runSteps n).window, fun _ => (h.runSteps n).port⟩

end Sys2Proof.Machine
end

section
/-! Structural matches and checksums (spec/41_detect_checksum.md). Each lane's decoder is read
through its two flags: `matchFlag` says the frame is accepted, `mismatchFlag` that its checksum is
wrong, and one of the two is set exactly on a structural match. -/

namespace Sys2Proof.Machine

/-! ### The two flags of a decoder's answer -/

@[simp] theorem matchFlag_ok (i : Instr) : matchFlag (.ok i) = true := rfl
@[simp] theorem matchFlag_error (e : DecodeError) : matchFlag (.error e) = false := rfl
@[simp] theorem mismatchFlag_ok (i : Instr) : mismatchFlag (.ok i) = false := rfl
@[simp] theorem mismatchFlag_error (e : DecodeError) :
    mismatchFlag (.error e) = decide (e = .checksum) := by
  cases e <;> rfl

/-- A number below 256 is a byte exactly when it is the byte's value. -/
theorem byte_ofNat_eq_iff {n : Nat} (h : n < 256) (b : Byte) :
    BitVec.ofNat 8 n = b ↔ n = b.toNat := by
  rw [← BitVec.toNat_inj, BitVec.toNat_ofNat, Nat.mod_eq_of_lt h]

/-! ### Lane D -/

theorem matchFlag_decodeD_seven (cfg : Config) (f0 a c1 c2 d1 d2 ck : Byte) :
    matchFlag (decodeD cfg [f0, a, c1, c2, d1, d2, ck]) = true ↔
      f0 = Config.syncD ∧ cksumD cfg.pdCksumLegacy f0 a c1 c2 d1 d2 = ck := by
  rw [decodeD_seven]
  split_ifs <;> simp_all

theorem mismatchFlag_decodeD_seven (cfg : Config) (f0 a c1 c2 d1 d2 ck : Byte) :
    mismatchFlag (decodeD cfg [f0, a, c1, c2, d1, d2, ck]) = true ↔
      f0 = Config.syncD ∧ cksumD cfg.pdCksumLegacy f0 a c1 c2 d1 d2 ≠ ck := by
  rw [decodeD_seven]
  split_ifs <;> simp_all

/-- Lane D evaluates a checksum exactly on a structural match (R74). -/
theorem decodeD_evaluates_iff (cfg : Config) (w : List Byte) :
    (matchFlag (decodeD cfg w) = true ∨ mismatchFlag (decodeD cfg w) = true) ↔
      w.length = 7 ∧ w.getD 0 0 = 0xFF := by
  by_cases hlen : w.length = 7
  · obtain ⟨f0, a, c1, c2, d1, d2, ck, rfl⟩ := list_length_seven w hlen
    rw [matchFlag_decodeD_seven, mismatchFlag_decodeD_seven, ← and_or_left]
    simp [Decidable.em]
  · simp [decodeD_of_length_ne cfg w hlen, hlen]

/-- Lane D accepts exactly when the checksum of a structural match is right (R74). -/
theorem decodeD_accepts_iff (cfg : Config) (w : List Byte) :
    matchFlag (decodeD cfg w) = true ↔ w.length = 7 ∧ w.getD 0 0 = 0xFF ∧
      cksumD cfg.pdCksumLegacy (w.getD 0 0) (w.getD 1 0) (w.getD 2 0) (w.getD 3 0) (w.getD 4 0)
        (w.getD 5 0) = w.getD 6 0 := by
  by_cases hlen : w.length = 7
  · obtain ⟨f0, a, c1, c2, d1, d2, ck, rfl⟩ := list_length_seven w hlen
    simp [matchFlag_decodeD_seven]
  · simp [decodeD_of_length_ne cfg w hlen, hlen]

/-- Settles O22: a window that is not 7 bytes long is refused unread, and on 7 bytes the decoder
checks the sync byte and then the checksum. -/
theorem pelcoDStructuralMatch : Obligations.PelcoDStructuralMatch :=
  fun cfg w => ⟨decodeD_evaluates_iff cfg w, decodeD_accepts_iff cfg w⟩

/-! ### Lane P -/

theorem matchFlag_decodeP_eight (cfg : Config) (f0 a c1 c2 d1 d2 f6 ck : Byte) :
    matchFlag (decodeP cfg [f0, a, c1, c2, d1, d2, f6, ck]) = true ↔
      (f0 = Config.syncP ∧ f6 = Config.endP) ∧ cksumP f0 a c1 c2 d1 d2 f6 = ck := by
  rw [decodeP_eight]
  split_ifs <;> simp_all

theorem mismatchFlag_decodeP_eight (cfg : Config) (f0 a c1 c2 d1 d2 f6 ck : Byte) :
    mismatchFlag (decodeP cfg [f0, a, c1, c2, d1, d2, f6, ck]) = true ↔
      (f0 = Config.syncP ∧ f6 = Config.endP) ∧ cksumP f0 a c1 c2 d1 d2 f6 ≠ ck := by
  rw [decodeP_eight]
  split_ifs <;> simp_all

/-- Lane P evaluates a checksum exactly on a structural match (R78). -/
theorem decodeP_evaluates_iff (cfg : Config) (w : List Byte) :
    (matchFlag (decodeP cfg w) = true ∨ mismatchFlag (decodeP cfg w) = true) ↔
      w.length = 8 ∧ w.getD 0 0 = 0xA0 ∧ w.getD 6 0 = 0xAF := by
  by_cases hlen : w.length = 8
  · obtain ⟨f0, a, c1, c2, d1, d2, f6, ck, rfl⟩ := list_length_eight w hlen
    rw [matchFlag_decodeP_eight, mismatchFlag_decodeP_eight, ← and_or_left]
    simp [Decidable.em]
  · simp [decodeP_of_length_ne cfg w hlen, hlen]

/-- Lane P accepts exactly when the checksum of a structural match is right (R78). -/
theorem decodeP_accepts_iff (cfg : Config) (w : List Byte) :
    matchFlag (decodeP cfg w) = true ↔ w.length = 8 ∧ w.getD 0 0 = 0xA0 ∧ w.getD 6 0 = 0xAF ∧
      cksumP (w.getD 0 0) (w.getD 1 0) (w.getD 2 0) (w.getD 3 0) (w.getD 4 0) (w.getD 5 0)
        (w.getD 6 0) = w.getD 7 0 := by
  by_cases hlen : w.length = 8
  · obtain ⟨f0, a, c1, c2, d1, d2, f6, ck, rfl⟩ := list_length_eight w hlen
    simp [matchFlag_decodeP_eight, and_assoc]
  · simp [decodeP_of_length_ne cfg w hlen, hlen]

/-- Settles O23: a window that is not 8 bytes long is refused unread, and on 8 bytes the decoder
checks the start byte, the end byte and then the checksum. -/
theorem pelcoPStructuralMatch : Obligations.PelcoPStructuralMatch :=
  fun cfg w => ⟨decodeP_evaluates_iff cfg w, decodeP_accepts_iff cfg w⟩

/-! ### Lane B -/

/-- The header marker is bit 7 (R46). -/
theorem bit7_eq_true_iff (b : Byte) : b[7] = true ↔ 128 ≤ b.toNat := by
  have h : b[7] = b.msb := rfl
  rw [h, BitVec.msb_eq_decide, decide_eq_true_eq]

/-- Lane B's decoder reads the header first. -/
theorem decodeB_cons (cfg : Config) (header : Byte) (tail : List Byte) :
    decodeB cfg (header :: tail) =
      if !header[7] then .error .sync
      else if tail.length ≠ declaredLen header then .error .length
      else if cksumB (header :: tail).dropLast ≠ (header :: tail).getLast (by simp) then
        .error .checksum
      else .ok (classifyB cfg.auxFnSel tail.dropLast) := rfl

theorem matchFlag_decodeB_cons (cfg : Config) (header : Byte) (tail : List Byte) :
    matchFlag (decodeB cfg (header :: tail)) = true ↔
      (header[7] = true ∧ tail.length = declaredLen header) ∧
        cksumB (header :: tail).dropLast = (header :: tail).getLast (by simp) := by
  rw [decodeB_cons]
  split_ifs <;> simp_all

theorem mismatchFlag_decodeB_cons (cfg : Config) (header : Byte) (tail : List Byte) :
    mismatchFlag (decodeB cfg (header :: tail)) = true ↔
      (header[7] = true ∧ tail.length = declaredLen header) ∧
        cksumB (header :: tail).dropLast ≠ (header :: tail).getLast (by simp) := by
  rw [decodeB_cons]
  split_ifs <;> simp_all

/-- Lane B evaluates a checksum exactly on a structural match (R81). -/
theorem decodeB_evaluates_iff (cfg : Config) (w : List Byte) :
    (matchFlag (decodeB cfg w) = true ∨ mismatchFlag (decodeB cfg w) = true) ↔
      1 ≤ w.length ∧ 128 ≤ (w.getD 0 0).toNat ∧ w.length = (w.getD 0 0).toNat % 128 + 1 := by
  cases w with
  | nil => simp [decodeB]
  | cons header tail =>
    rw [matchFlag_decodeB_cons, mismatchFlag_decodeB_cons, ← and_or_left, bit7_eq_true_iff]
    simp [Decidable.em, declaredLen]

/-- Lane B accepts exactly when the checksum of a structural match is right over its first len bytes
(R81). -/
theorem decodeB_accepts_iff (cfg : Config) (w : List Byte) (len : Nat)
    (hlen : len = (w.getD 0 0).toNat % 128) :
    matchFlag (decodeB cfg w) = true ↔ 1 ≤ w.length ∧ 128 ≤ (w.getD 0 0).toNat ∧
      w.length = len + 1 ∧ cksumB (w.take len) = w.getD len 0 := by
  cases w with
  | nil => simp [decodeB]
  | cons header tail =>
    have hdecl : len = declaredLen header := hlen
    rw [matchFlag_decodeB_cons, bit7_eq_true_iff, ← hdecl]
    by_cases htail : tail.length = len
    · subst htail
      simp [List.dropLast_eq_take, List.getLast_eq_getElem]
    · simp [htail]

/-- Settles O24: lane B's decoder checks the header's marker, the declared length and then the
checksum, whose byte is the last of the window. -/
theorem boschStructuralMatch : Obligations.BoschStructuralMatch :=
  fun cfg w => ⟨decodeB_evaluates_iff cfg w, decodeB_accepts_iff cfg w⟩

/-! ### The checksum formulas -/

/-- CKSUM_D without the legacy parameter is the sum of bytes 1 to 5 (R75). -/
theorem cksumD_eq_iff (f0 a c1 c2 d1 d2 ck : Byte) :
    cksumD false f0 a c1 c2 d1 d2 = ck ↔
      ([a, c1, c2, d1, d2].map BitVec.toNat).sum % 256 = ck.toNat := by
  have hsum : ([a, c1, c2, d1, d2].map BitVec.toNat).sum =
      a.toNat + c1.toNat + c2.toNat + d1.toNat + d2.toNat := by simp [Nat.add_assoc]
  rw [hsum]
  exact byte_ofNat_eq_iff (Nat.mod_lt _ (by decide)) ck

/-- CKSUM_P is the exclusive or of bytes 0 to 6 (R79). -/
theorem cksumP_eq_foldl (f0 a c1 c2 d1 d2 f6 : Byte) :
    cksumP f0 a c1 c2 d1 d2 f6 = [f0, a, c1, c2, d1, d2, f6].foldl (· ^^^ ·) 0 := by
  simp [cksumP]

/-- The start and end bytes contribute 0xA0 ^^^ 0xAF, which is 0x0F (R79). -/
theorem foldl_xor_frameP (a c1 c2 d1 d2 : Byte) :
    [0xA0, a, c1, c2, d1, d2, 0xAF].foldl (· ^^^ ·) (0 : Byte) =
      [a, c1, c2, d1, d2].foldl (· ^^^ ·) 0x0F := by
  have hends : (0x0F : Byte) = 0xA0 ^^^ 0xAF := rfl
  rw [hends]
  simp only [List.foldl_cons, List.foldl_nil]
  ac_rfl

/-- CKSUM_B is the sum of the bytes before it modulo 128 (R82). -/
theorem cksumB_eq_iff (body : List Byte) (ck : Byte) :
    cksumB body = ck ↔ (body.map BitVec.toNat).sum % 128 = ck.toNat :=
  byte_ofNat_eq_iff (by omega) ck

/-- Settles O25: on a structural match acceptance is the checksum equation alone, which each lane's
formula turns into arithmetic on the frame's bytes. -/
theorem checksumsDecideAcceptance : Obligations.ChecksumsDecideAcceptance := by
  refine ⟨fun cfg w hlegacy hlen hsync => ?_, fun cfg w hlen hstart hend => ?_,
    fun cfg w len hlen hheader => ?_⟩
  · obtain ⟨f0, a, c1, c2, d1, d2, ck, rfl⟩ := list_length_seven w hlen
    obtain rfl : f0 = 0xFF := hsync
    rw [matchFlag_decodeD_seven, hlegacy, cksumD_eq_iff, and_iff_right rfl]
    rfl
  · obtain ⟨f0, a, c1, c2, d1, d2, f6, ck, rfl⟩ := list_length_eight w hlen
    obtain rfl : f0 = 0xA0 := hstart
    obtain rfl : f6 = 0xAF := hend
    refine ⟨?_, foldl_xor_frameP a c1 c2 d1 d2⟩
    rw [matchFlag_decodeP_eight, cksumP_eq_foldl, and_iff_right ⟨rfl, rfl⟩]
    rfl
  · have hdecl : len = (w.getD 0 0).toNat % 128 := by have := (w.getD 0 0).isLt; omega
    have hmatch : 1 ≤ w.length ∧ 128 ≤ (w.getD 0 0).toNat := by omega
    rw [decodeB_accepts_iff cfg w len hdecl, cksumB_eq_iff, ← and_assoc, and_iff_right hmatch,
      and_iff_right hlen]

/-! ### Detectors -/

/-- A detector whose decoder evaluates no checksum does nothing, on any lane (R89). -/
theorem detect_of_not_evaluated (l : Lane) (s : State)
    (h : ¬ (matchFlag (s.decodeLane l) = true ∨ mismatchFlag (s.decodeLane l) = true)) :
    detect l s = .next s := by
  unfold detect
  match hr : s.decodeLane l with
  | .ok i => exact absurd (.inl (by rw [hr]; rfl)) h
  | .error .checksum => exact absurd (.inr (by rw [hr]; rfl)) h
  | .error .length | .error .sync | .error .endByte | .error .idle | .error .transaction => rfl

/-- Settles O29: without a structural match no checksum is evaluated. -/
theorem noStructuralMatchIsSilent : Obligations.NoStructuralMatchIsSilent :=
  ⟨fun s h => detect_of_not_evaluated .D s (mt (decodeD_evaluates_iff s.cfg s.winD).mp h),
    fun s h => detect_of_not_evaluated .P s (mt (decodeP_evaluates_iff s.cfg s.winP).mp h),
    fun s h => detect_of_not_evaluated .B s (mt (decodeB_evaluates_iff s.cfg s.winB).mp h)⟩

/-- A detector whose decoder finds a wrong checksum reports it (R88). -/
theorem detect_of_checksum {l : Lane} {s : State} (h : s.decodeLane l = .error .checksum) :
    detect l s = .next (s.reportMismatch l) := by
  simp only [detect, h]

/-- A lane's decoder answers frame commands only. -/
theorem decodeLane_format_ne {l : Lane} {s : State} {i : Instr} (h : s.decodeLane l = .ok i) :
    i.format ≠ .transaction := by
  cases l with
  | D => rw [decodeD_format _ _ _ h]; decide
  | P => rw [decodeP_format _ _ _ h]; decide
  | B => rw [decodeB_format _ _ _ h]; decide

/-- A detector that decodes its window runs the instruction it read (R77, R80, R83). -/
theorem detect_of_decoded {l : Lane} {s : State} {i : Instr} (h : s.decodeLane l = .ok i) :
    detect l s = exec i s := by
  rw [← runFrame_eq_exec i s (decodeLane_format_ne h)]
  simp only [detect, h]

/-! ### Accepted frames -/

theorem accepts_acceptD (s : State) (k : Kind) (c : BitVec 15) :
    accepts .D s (s.acceptD k c) ⟨.D, k, some c, s.winD⟩ :=
  ⟨rfl, rfl, rfl, rfl, rfl, sameButLane_acceptD s k c⟩

theorem accepts_acceptP (s : State) (k : Kind) (c : BitVec 15) :
    accepts .P s (s.acceptP k c) ⟨.P, k, some c, s.winP⟩ :=
  ⟨rfl, rfl, rfl, rfl, rfl, sameButLane_acceptP s k c⟩

theorem accepts_acceptB (s : State) (k : Kind) (c : Option (BitVec 15)) :
    accepts .B s (s.acceptB k c) ⟨.B, k, c, s.winB⟩ :=
  ⟨rfl, rfl, rfl, rfl, rfl, sameButLane_acceptB s k c⟩

/-- A mismatch is presented without a camera id (R60, R144). -/
theorem ne_mismatch_of_hasCamera {k : Kind} (h : noCamera k = false) : k ≠ .mismatch := by
  rintro rfl
  cases h

/-- No lane B command presents a mismatch; the short frame's event has no camera id either, so the
commands are looked at one by one. -/
theorem runFrame_bosch_ne_mismatch (i : Instr) (s : State) (h : i.format = .bosch) :
    ∃ k c, k ≠ .mismatch ∧ runFrame i s = .next (s.acceptB k c) := by
  cases i with
  | boschShort | boschVarSpeed | boschAuxOn | boschAuxOff | boschPresetSet | boschPresetShot
  | boschCancelLatchingAux | boschLatchingAuxOn | boschLatchingAuxOff | boschAuxUnknownFn
  | boschOp | boschUnknownOp =>
    refine ⟨_, _, ?_, rfl⟩
    exact Kind.noConfusion
  | _ => cases h

/-- The instruction that a lane decodes accepts the frame in the lane's window, with an event that
is no mismatch (R86, R87). -/
theorem runFrame_decoded_accepts {l : Lane} {s : State} {i : Instr} (h : s.decodeLane l = .ok i) :
    ∃ t e, runFrame i s = .next t ∧ accepts l s t e ∧ e.kind ≠ .mismatch := by
  cases l with
  | D =>
    obtain ⟨k, c, -, hcam, hr⟩ := runFrame_pelcoD i s (decodeD_format _ _ _ h)
    exact ⟨_, _, hr, accepts_acceptD s k c, ne_mismatch_of_hasCamera hcam⟩
  | P =>
    obtain ⟨k, c, -, hcam, hr⟩ := runFrame_pelcoP i s (decodeP_format _ _ _ h)
    exact ⟨_, _, hr, accepts_acceptP s k c, ne_mismatch_of_hasCamera hcam⟩
  | B =>
    obtain ⟨k, c, hk, hr⟩ := runFrame_bosch_ne_mismatch i s (decodeB_format _ _ _ h)
    exact ⟨_, _, hr, accepts_acceptB s k c, hk⟩

/-- The same of the detector, which answers what exec of the decoded instruction answers. -/
theorem detect_decoded_accepts {l : Lane} {s : State} {i : Instr} (h : s.decodeLane l = .ok i) :
    ∃ t e, detect l s = .next t ∧ exec i s = .next t ∧ accepts l s t e ∧ e.kind ≠ .mismatch := by
  obtain ⟨t, e, hr, haccepts, hk⟩ := runFrame_decoded_accepts h
  rw [runFrame_eq_exec i s (decodeLane_format_ne h)] at hr
  exact ⟨t, e, (detect_of_decoded h).trans hr, hr, haccepts, hk⟩

/-- A Pelco lane that decodes its window succeeds and empties it (R86). -/
theorem pelco_success_empties_window {l : Lane} (hl : l ≠ .B) {s : State} {i : Instr}
    (h : s.decodeLane l = .ok i) :
    ∃ t, detect l s = .next t ∧ exec i s = .next t ∧ t.succeeded l ∧ (t.window l).length = 0 := by
  obtain ⟨t, e, hd, he, ⟨-, -, hport, -, hwin, -⟩, hk⟩ := detect_decoded_accepts h
  exact ⟨t, hd, he, ⟨e, hport, hk⟩, by rw [hwin, if_neg hl, List.length_nil]⟩

/-- A window that lane B accepts has one byte more than its header declares (R81). -/
theorem length_of_decodeB_ok {cfg : Config} {w : List Byte} {i : Instr}
    (h : decodeB cfg w = .ok i) : w.length = (w.getD 0 0).toNat % 128 + 1 := by
  obtain ⟨-, -, hlen⟩ := (decodeB_evaluates_iff cfg w).mp (.inl (by rw [h]; rfl))
  exact hlen

/-- Settles O30: the detector runs the decoded command, which on lane B keeps the window. -/
theorem boschSuccessKeepsTheWindow : Obligations.BoschSuccessKeepsTheWindow := by
  intro s i h
  obtain ⟨t, e, hd, he, ⟨-, -, hport, -, hwin, -⟩, hk⟩ := detect_decoded_accepts (l := .B) h
  rw [if_pos rfl, State.window_B, State.window_B] at hwin
  exact ⟨t, hd, he, ⟨e, hport, hk⟩, hwin, by rw [State.fillB, hwin, length_of_decodeB_ok h]⟩

end Sys2Proof.Machine
end

section
/-! No byte is used twice (R86): what a lane holds or presents is made of the bytes taken since its
window was last empty. The invariant is the same for the three lanes, and each stage of a step keeps
it. -/

namespace Sys2Proof.Machine

/-- Lane `l` holds and presents nothing but a last part of the bytes `bs`. -/
structure LaneMadeOf (l : Lane) (bs : List Byte) (s : State) : Prop where
  window : s.window l <:+ bs
  candidate : ∀ e, s.port l = some e → e.raw <:+ bs

/-! ### Windows -/

/-- A pushed window is made of the old one and the new byte (R69, R70). -/
theorem pushWindow_suffix (cap : Nat) (w : List Byte) (b : Byte) :
    pushWindow cap w b <:+ w ++ [b] := by
  unfold pushWindow
  split
  · exact List.suffix_rfl
  · exact ⟨w.take 1, by rw [← List.append_assoc, List.take_append_drop]⟩

/-- The same for lane B, whose window a header empties first (R71). -/
theorem pushWindowB_suffix (w : List Byte) (b : Byte) : pushWindowB w b <:+ w ++ [b] := by
  cases hb : b[7] with
  | true => rw [pushWindowB_anchor w b hb]; exact List.suffix_append w [b]
  | false => rw [pushWindowB_low w b hb]; exact pushWindow_suffix _ w b

theorem take_window_suffix (l : Lane) (s : State) (b : Byte) :
    (s.take b).window l <:+ s.window l ++ [b] := by
  cases l with
  | D => exact pushWindow_suffix _ s.winD b
  | P => exact pushWindow_suffix _ s.winP b
  | B => exact pushWindowB_suffix s.winB b

/-! ### The stages of a step -/

section
variable {l : Lane} {bs : List Byte} {s : State}

/-- With the lane's port clear the window is all that counts. -/
theorem laneMadeOf_of_port_none (hport : s.port l = none) (h : s.window l <:+ bs) :
    LaneMadeOf l bs s where
  window := h
  candidate e he := by rw [hport] at he; cases he

theorem laneMadeOf_quiet (h : s.window l <:+ bs) : LaneMadeOf l bs s.quiet :=
  laneMadeOf_of_port_none (by cases l <;> rfl) (by cases l <;> exact h)

theorem laneMadeOf_take (h : s.window l <:+ bs) (b : Byte) :
    LaneMadeOf l (bs ++ [b]) (s.take b) := by
  refine laneMadeOf_of_port_none (by cases l <;> rfl) ?_
  obtain ⟨before, rfl⟩ := h
  rw [List.append_assoc]
  exact (take_window_suffix l s b).trans (List.suffix_append before _)

/-- An event that carries the lane's window is made of the same bytes. -/
theorem LaneMadeOf.of_raw {t : State} {e : Event} (h : LaneMadeOf l bs s)
    (hwin : t.window l <:+ s.window l) (hport : t.port l = some e) (hraw : e.raw = s.window l) :
    LaneMadeOf l bs t where
  window := hwin.trans h.window
  candidate e' he' := by
    obtain rfl : e = e' := Option.some.inj (hport.symm.trans he')
    exact hraw ▸ h.window

theorem LaneMadeOf.of_sameButLane {m : Lane} {t : State} (h : LaneMadeOf l bs s)
    (hlm : l ≠ m) (hs : sameButLane m s t) : LaneMadeOf l bs t := by
  obtain ⟨hother, -⟩ := hs
  obtain ⟨hwin, hport⟩ := hother l hlm
  exact ⟨hwin ▸ h.window, hport ▸ h.candidate⟩

/-- The lane's own detector presents the window or nothing, and keeps it or empties it (R86
to R89). -/
theorem LaneMadeOf.detect_own {t : State} (h : LaneMadeOf l bs s) (hd : detect l s = .next t) :
    LaneMadeOf l bs t := by
  match hr : s.decodeLane l with
  | .ok i =>
    obtain ⟨t', e, he, -, ⟨-, hraw, hport, -, hwin, -⟩, -⟩ := detect_decoded_accepts hr
    obtain rfl := Host.Outcome.next.inj (he.symm.trans hd)
    refine h.of_raw ?_ hport hraw
    rw [hwin]
    split
    · exact List.suffix_rfl
    · exact List.nil_suffix
  | .error .checksum =>
    obtain rfl := Host.Outcome.next.inj ((detect_of_checksum hr).symm.trans hd)
    cases l <;> exact h.of_raw List.suffix_rfl rfl rfl
  | .error .length | .error .sync | .error .endByte | .error .idle | .error .transaction =>
    have hsilent := detect_of_not_evaluated l s (by simp [hr])
    obtain rfl := Host.Outcome.next.inj (hsilent.symm.trans hd)
    exact h

/-- Any lane's detector completes, takes no input and keeps the invariant of lane `l`. -/
theorem LaneMadeOf.detect (m : Lane) (h : LaneMadeOf l bs s) :
    ∃ t, Machine.detect m s = .next t ∧ t.input = s.input ∧ LaneMadeOf l bs t := by
  obtain ⟨t, hd, hsame⟩ := detect_sameButLane m s
  have ⟨_, _, hinput, _⟩ := hsame
  refine ⟨t, hd, hinput, ?_⟩
  by_cases hlm : l = m
  · subst hlm; exact h.detect_own hd
  · exact h.of_sameButLane hlm hsame

/-- INGEST: the window takes the byte, and no detector adds to it (R66). -/
theorem laneMadeOf_ingest (h : s.window l <:+ bs) (b : Byte) :
    ∃ t, exec (.ingest b) s = .next t ∧ t.input = s.input ∧ LaneMadeOf l (bs ++ [b]) t := by
  obtain ⟨u, hu, hui, hu'⟩ := (laneMadeOf_take h b).detect .D
  obtain ⟨v, hv, hvi, hv'⟩ := hu'.detect .P
  obtain ⟨t, ht, hti, ht'⟩ := hv'.detect .B
  refine ⟨t, ?_, by rw [hti, hvi, hui, State.take_input], ht'⟩
  rw [execIngest_eq, hu, andThen_next, hv, andThen_next, ht]

/-- RESET leaves nothing in any window and presents nothing (R73). -/
theorem laneMadeOf_reset (v : Bool) (b : Byte) :
    ∃ t, exec (.reset v b) s = .next t ∧ t.input = s.input ∧ LaneMadeOf l bs t :=
  ⟨_, rfl, rfl, laneMadeOf_of_port_none (by cases l <;> rfl) (by cases l <;> exact List.nil_suffix)⟩

/-- One step: what it adds to the lane's bytes is the byte of the transaction it takes, if it takes
one (R27, R66, R73). -/
theorem laneMadeOf_step (h : s.window l <:+ bs) :
    ∃ t, step s = .next t ∧ t.input = s.input.drop 1 ∧
      LaneMadeOf l (bs ++ takenBytes (s.input.take 1)) t := by
  cases hi : s.input with
  | nil => exact ⟨s.quiet, step_of_input_nil hi, hi, by simpa [takenBytes] using laneMadeOf_quiet h⟩
  | cons x rest =>
    have hrest : State.window { s with input := rest } l <:+ bs := by cases l <;> exact h
    cases hr : x.rst with
    | true =>
      rw [step_of_rst hi hr]
      exact laneMadeOf_reset x.inValid x.inByte
    | false =>
      cases hv : x.inValid with
      | true =>
        rw [step_of_inValid hi hr hv]
        simpa [takenBytes, hr, hv] using laneMadeOf_ingest hrest x.inByte
      | false =>
        rw [step_of_idle hi hr hv]
        exact ⟨_, rfl, rfl, by simpa [takenBytes, hr, hv] using laneMadeOf_quiet hrest⟩

end

/-! ### Runs -/

theorem takenBytes_append (xs ys : List Transaction) :
    takenBytes (xs ++ ys) = takenBytes xs ++ takenBytes ys := List.filterMap_append

/-- The bytes of `k + 1` transactions are those of the first and those of the next `k`. -/
theorem takenBytes_take_succ (xs : List Transaction) (k : Nat) :
    takenBytes (xs.take (k + 1)) = takenBytes (xs.take 1) ++ takenBytes ((xs.drop 1).take k) := by
  rw [← takenBytes_append, ← List.take_add, Nat.add_comm]

/-- `k` steps add at most the bytes of `k` transactions. -/
theorem LaneMadeOf.runSteps {l : Lane} (k : Nat) {bs : List Byte} {s : State}
    (h : LaneMadeOf l bs s) :
    LaneMadeOf l (bs ++ takenBytes (s.input.take k)) (Machine.runSteps k s) := by
  induction k generalizing bs s with
  | zero => simpa [takenBytes, Machine.runSteps] using h
  | succ k ih =>
    obtain ⟨t, ht, hti, ht'⟩ := laneMadeOf_step h.window
    rw [runSteps_succ_of_next ht, takenBytes_take_succ, ← List.append_assoc, ← hti]
    exact ih ht'

/-- From an empty window on, a lane is made of the bytes taken since; its port from the first step
on, which clears what stood there before (R27, R86). -/
theorem laneMadeOf_runSteps_of_window_nil (l : Lane) (s : State) (k : Nat) (h : s.window l = []) :
    (runSteps k s).window l <:+ takenBytes (s.input.take k) ∧
      (1 ≤ k → ∀ e, (runSteps k s).port l = some e → e.raw <:+ takenBytes (s.input.take k)) := by
  cases k with
  | zero => exact ⟨by rw [runSteps, h]; exact List.nil_suffix, fun hk => absurd hk (by decide)⟩
  | succ k =>
    obtain ⟨t, ht, hti, ht'⟩ := laneMadeOf_step (bs := []) (List.suffix_nil.mpr h)
    have hrun := ht'.runSteps k
    rw [List.nil_append, hti, ← takenBytes_take_succ, ← runSteps_succ_of_next ht] at hrun
    exact ⟨hrun.window, fun _ => hrun.candidate⟩

/-- Settles O31: the decoded command empties the lane's window, and an empty window is where the
invariant starts. -/
theorem pelcoSuccessUsesUpItsBytes : Obligations.PelcoSuccessUsesUpItsBytes := by
  exact ⟨fun _ _ h => pelco_success_empties_window (l := .D) (by decide) h,
    fun _ _ h => pelco_success_empties_window (l := .P) (by decide) h,
    laneMadeOf_runSteps_of_window_nil .D, laneMadeOf_runSteps_of_window_nil .P⟩

end Sys2Proof.Machine
end

section
/-! The axes of a standard command (R97, R98 of spec/42_pelco_standard.md): a flag is one bit of a
command byte, and an axis state is the entry of Stop, Pos, Neg, Ambiguous at its two flags' code. -/

namespace Sys2Proof.Machine

/-- A flag as a number: the bit at its place of the command byte that holds it. -/
theorem flagAt_toNat (cmd1 cmd2 : Byte) (byte : CmdByte) (bit : Fin 8) :
    (flagAt cmd1 cmd2 ⟨byte, bit⟩).toNat =
      (if byte = .cmd1 then cmd1.toNat else cmd2.toNat) / 2 ^ bit.val % 2 := by
  cases byte with
  | cmd1 => exact Nat.toNat_testBit cmd1.toNat bit
  | cmd2 => exact Nat.toNat_testBit cmd2.toNat bit

/-- The two flags' code selects the axis state; both flags set, code 3, is the fourth (R98). -/
theorem getElem?_flagCode_eq_axisOfFlags (positive negative : Bool) :
    [Axis.stop, .pos, .neg, .ambiguous][positive.toNat + 2 * negative.toNat]? =
      some (axisOfFlags positive negative) := by
  match positive, negative with
  | false, false | true, false | false, true | true, true => rfl

/-- Settles O51: each flag's number is the bit the statement writes out, and the code of the two
numbers selects the state. -/
theorem axisStateIsItsTwoFlags : Obligations.AxisStateIsItsTwoFlags := by
  intro c1 c2 p n pb nb
  rw [← flagAt_toNat, ← flagAt_toNat]
  exact getElem?_flagCode_eq_axisOfFlags (flagAt c1 c2 ⟨pb, p⟩) (flagAt c1 c2 ⟨nb, n⟩)

end Sys2Proof.Machine
end

section
/-! Runs complete (R142 of spec/60_exceptions.md). The host's run of the machine goes on past a step
that completes, and every step does: whatever the transaction, it answers a next state. -/

namespace Sys2Proof.Machine

/-- Every step completes and takes the next transaction, if one is offered (R27, R142). The step
lemma of `LaneMadeOf` says so for any lane, on the bytes its window holds already. -/
theorem step_completes_and_drops_one (s : State) :
    ∃ t, step s = .next t ∧ t.input = s.input.drop 1 := by
  obtain ⟨t, ht, hinput, -⟩ := laneMadeOf_step (l := .D) (List.suffix_refl (s.window .D))
  exact ⟨t, ht, hinput⟩

/-- A run whose first step completes is the rest of the run from the state that step leaves. -/
theorem core_run_succ_of_next {s t : State} (h : step s = .next t) (n : Nat) :
    Host.Core.run core (n + 1) s = Host.Core.run core n t := by
  have hstep : core.step s = .next t := h
  simp only [Host.Core.run, hstep]

/-- Settles O34, by induction on the number of steps: the first step completes and leaves the input
without its first transaction, and the other steps run from there. -/
theorem everyStepCompletes : Obligations.EveryStepCompletes := by
  intro n
  induction n with
  | zero => exact fun s => ⟨s, rfl, rfl⟩
  | succ n ih =>
    intro s
    obtain ⟨u, hstep, hu⟩ := step_completes_and_drops_one s
    obtain ⟨t, hrun, ht⟩ := ih u
    refine ⟨t, (core_run_succ_of_next hstep n).trans hrun, ?_⟩
    rw [ht, hu, List.drop_drop, Nat.add_comm]

end Sys2Proof.Machine
end

section
/-! The encoder and the decoders are inverse to each other (R44 to R47 of spec/30_encoding.md). A
frame is written around its command bytes or its payload and read back as these; on these the
classifiers and `encode` are inverse on the well-formed instructions. -/

namespace Sys2Proof.Machine

/-! ### Frames: what the encoders write the decoders read -/

/-- A written Pelco D frame is read as the instruction of its command bytes (R44, R75). -/
theorem decodeD_encodeD (cfg : Config) (h : cfg.pdCksumLegacy = false) (a c1 c2 d1 d2 : Byte) :
    decodeD cfg (encodeD a c1 c2 d1 d2) = .ok (classifyD cfg.extLut a c1 c2 d1 d2) := by
  rw [encodeD, decodeD_seven, h, if_neg (not_not_intro rfl), if_neg (not_not_intro rfl)]

/-- A written Pelco P frame is read as the instruction of its command bytes (R45, R79). -/
theorem decodeP_encodeP (cfg : Config) (a c1 c2 d1 d2 : Byte) :
    decodeP cfg (encodeP a c1 c2 d1 d2) = .ok (classifyP cfg.extLut a c1 c2 d1 d2) := by
  rw [encodeP, decodeP_eight, if_neg (not_not_intro rfl), if_neg (not_not_intro rfl),
    if_neg (not_not_intro rfl)]

/-- The header byte of a length: marker and length (R46). -/
def headerOf (len : Nat) : Byte := 0x80#8 ||| BitVec.ofNat 8 len

theorem headerOf_toNat {len : Nat} (h : len < 128) : (headerOf len).toNat = 128 + len := by
  have hmod : len % 2 ^ 8 = len := Nat.mod_eq_of_lt (by omega)
  rw [headerOf, BitVec.toNat_or, BitVec.toNat_ofNat, BitVec.toNat_ofNat, hmod]
  exact (Nat.two_pow_add_eq_or_of_lt (i := 7) h 1).symm

theorem headerOf_bit7 {len : Nat} (h : len < 128) : (headerOf len)[7] = true := by
  rw [bit7_eq_true_iff, headerOf_toNat h]; omega

theorem declaredLen_headerOf {len : Nat} (h : len < 128) : declaredLen (headerOf len) = len := by
  rw [declaredLen, headerOf_toNat h]; omega

/-- A header is the one of the length that it declares. -/
theorem headerOf_declaredLen {header : Byte} (h : header[7] = true) :
    headerOf (declaredLen header) = header := by
  rw [← BitVec.toNat_inj, headerOf_toNat (declaredLen_lt header), header_toNat header h]

theorem encodeB_eq (payload : List Byte) :
    encodeB payload = headerOf (payload.length + 1) ::
      (payload ++ [cksumB (headerOf (payload.length + 1) :: payload)]) := rfl

/-- A written Bosch frame is read as the instruction of its payload (R46, R82). -/
theorem decodeB_encodeB (cfg : Config) {payload : List Byte} (h : payload.length ≤ 126) :
    decodeB cfg (encodeB payload) = .ok (classifyB cfg.auxFnSel payload) := by
  have hlen : payload.length + 1 < 128 := by omega
  rw [encodeB_eq, decodeB_cons, headerOf_bit7 hlen, declaredLen_headerOf hlen]
  simp [List.dropLast_cons_of_ne_nil]

/-! ### The default extended table -/

theorem extLookup_eq_some {lut : List ExtRow} {c1 c2 d1 : Byte} {act : ExtAct}
    (h : extLookup lut c1 c2 d1 = some act) :
    ∃ r ∈ lut, r.cmd1 = c1 ∧ r.cmd2 = c2 ∧ r.data1 = d1 ∧ r.action = act := by
  obtain ⟨r, hr, hact⟩ := Option.map_eq_some_iff.mp h
  have hmatch := List.find?_some hr
  simp only [Bool.and_eq_true, beq_iff_eq] at hmatch
  obtain ⟨⟨h1, h2⟩, h3⟩ := hmatch
  exact ⟨r, List.mem_of_find?_eq_some hr, h1, h2, h3, hact⟩

theorem extLookup_eq_none {lut : List ExtRow} {c1 c2 d1 : Byte} (h : extLookup lut c1 c2 d1 = none) :
    ∀ r ∈ lut, ¬ (r.cmd1 = c1 ∧ r.cmd2 = c2 ∧ r.data1 = d1) := by
  intro r hr hmatch
  have hnone := List.find?_eq_none.mp (Option.map_eq_none_iff.mp h) r hr
  simp [hmatch] at hnone

/-- Each action's row is found in the default table. -/
theorem extLookup_default_extCmd2 (act : ExtAct) :
    extLookup defaultExtLut 0x00 (extCmd2 act) 0x00 = some act := by
  cases act <;> rfl

/-- What the default table finds is the action's row (R53). -/
theorem extLookup_default_iff (c1 c2 d1 : Byte) (act : ExtAct) :
    extLookup defaultExtLut c1 c2 d1 = some act ↔ c1 = 0x00 ∧ c2 = extCmd2 act ∧ d1 = 0x00 := by
  constructor
  · intro h
    obtain ⟨r, hr, rfl, rfl, rfl, rfl⟩ := extLookup_eq_some h
    obtain ⟨act', -, rfl⟩ := List.mem_map.mp hr
    exact ⟨rfl, rfl, rfl⟩
  · rintro ⟨rfl, rfl, rfl⟩
    exact extLookup_default_extCmd2 act

/-- An action's code with the action, as the list of the nine pairs. -/
theorem mem_extCodes_iff (c2 : Byte) (act : ExtAct) :
    (c2, act) ∈ [((0x03 : Byte), ExtAct.setPreset), (0x05, .clearPreset), (0x07, .gotoPreset),
      (0x09, .setAux), (0x0B, .clearAux), (0x1F, .startRecordingTour), (0x21, .stopRecordingTour),
      (0x23, .startTour), (0x25, .setZoomSpeed)] ↔ c2 = extCmd2 act := by
  cases act <;> simp [extCmd2]

/-- Settles O50: a row of the default table is its action's code between two zero bytes. -/
theorem defaultExtendedTable : Obligations.DefaultExtendedTable := by
  intro c1 c2 d1 act
  rw [mem_extCodes_iff, and_comm (a := d1 = 0x00)]
  exact extLookup_default_iff c1 c2 d1 act

/-! ### Pelco commands: the classifiers -/

/-- The lane D command of an extended action. -/
def extInstrD (address data2 : Byte) : ExtAct → Instr
  | .setPreset => .pdSetPreset address data2
  | .clearPreset => .pdClearPreset address data2
  | .gotoPreset => .pdGotoPreset address data2
  | .setAux => .pdSetAux address data2
  | .clearAux => .pdClearAux address data2
  | .startRecordingTour => .pdStartRecTour address data2
  | .stopRecordingTour => .pdStopRecTour address data2
  | .startTour => .pdStartTour address data2
  | .setZoomSpeed => .pdSetZoomSpeed address data2

/-- The lane P command of an extended action. -/
def extInstrP (address data2 : Byte) : ExtAct → Instr
  | .setPreset => .ppSetPreset address data2
  | .clearPreset => .ppClearPreset address data2
  | .gotoPreset => .ppGotoPreset address data2
  | .setAux => .ppSetAux address data2
  | .clearAux => .ppClearAux address data2
  | .startRecordingTour => .ppStartRecTour address data2
  | .stopRecordingTour => .ppStopRecTour address data2
  | .startTour => .ppStartTour address data2
  | .setZoomSpeed => .ppSetZoomSpeed address data2

section
variable {lut : List ExtRow} {a c1 c2 d1 d2 : Byte}

theorem classifyD_standard (h : c2[0] = false) :
    classifyD lut a c1 c2 d1 d2 = .pdStd a c1 c2 d1 d2 := by simp [classifyD, h]

theorem classifyP_standard (h : c2[0] = false) :
    classifyP lut a c1 c2 d1 d2 = .ppStd a c1 c2 d1 d2 := by simp [classifyP, h]

theorem classifyD_action {act : ExtAct} (h : c2[0] = true)
    (hact : extLookup lut c1 c2 d1 = some act) :
    classifyD lut a c1 c2 d1 d2 = extInstrD a d2 act := by
  simp only [classifyD, h, hact, if_true]; cases act <;> rfl

theorem classifyP_action {act : ExtAct} (h : c2[0] = true)
    (hact : extLookup lut c1 c2 d1 = some act) :
    classifyP lut a c1 c2 d1 d2 = extInstrP a d2 act := by
  simp only [classifyP, h, hact, if_true]; cases act <;> rfl

theorem classifyD_unknown (h : c2[0] = true) (hnone : extLookup lut c1 c2 d1 = none) :
    classifyD lut a c1 c2 d1 d2 = .pdExtUnknown a c1 c2 d1 d2 := by
  simp only [classifyD, h, hnone, if_true]

theorem classifyP_unknown (h : c2[0] = true) (hnone : extLookup lut c1 c2 d1 = none) :
    classifyP lut a c1 c2 d1 d2 = .ppExtUnknown a c1 c2 d1 d2 := by
  simp only [classifyP, h, hnone, if_true]

end

theorem extCmd2_bit0 (act : ExtAct) : (extCmd2 act)[0] = true := by cases act <;> rfl

/-- The encoding of an extended action on lane D is read as that action. -/
theorem decodeD_encodeExtD (act : ExtAct) (a d2 : Byte) :
    decodeD Config.default (encodeExtD act a d2) = .ok (extInstrD a d2 act) := by
  rw [encodeExtD, decodeD_encodeD _ rfl]
  exact congrArg Except.ok (classifyD_action (extCmd2_bit0 act) (extLookup_default_extCmd2 act))

/-- The encoding of an extended action on lane P is read as that action. -/
theorem decodeP_encodeExtP (act : ExtAct) (a d2 : Byte) :
    decodeP Config.default (encodeExtP act a d2) = .ok (extInstrP a d2 act) := by
  rw [encodeExtP, decodeP_encodeP]
  exact congrArg Except.ok (classifyP_action (extCmd2_bit0 act) (extLookup_default_extCmd2 act))

/-! ### Bosch commands: the classifiers -/

theorem classifyB_short (sel : Fin 4) {payload : List Byte} (h : payload.length ≤ 2) :
    classifyB sel payload = .boschShort payload := by
  match payload, h with
  | [], _ | [_], _ | [_, _], _ => rfl

section
variable {sel : Fin 4} {hi lo op : Byte} {data : List Byte}

/-- A named op-code is field-decoded only with enough data bytes (R128, R140). -/
theorem classifyOp_named (hn : boschNamed op = true) (h5 : op = 0x05 → data.length < 3)
    (h7 : op = 0x07 → data = []) : classifyOp sel hi lo op data = .boschOp hi lo op data := by
  unfold classifyOp
  by_cases hop5 : op = 0x05
  · match data, h5 hop5 with
    | [], _ | [_], _ | [_, _], _ => rw [if_pos hop5]
  · rw [if_neg hop5]
    by_cases hop7 : op = 0x07
    · rw [if_pos hop7, h7 hop7]
    · rw [if_neg hop7, if_pos hn]

/-- 0x05 and 0x07 are named, so an op-code outside the set reaches the last arm (R141). -/
theorem classifyOp_unknown (hn : boschNamed op = false) :
    classifyOp sel hi lo op data = .boschUnknownOp hi lo op data := by
  have h5 : op ≠ 0x05 := by rintro rfl; cases hn
  have h7 : op ≠ 0x07 := by rintro rfl; cases hn
  simp only [classifyOp, h5, h7, hn, if_false, Bool.false_eq_true]

end

/-- The command of a named function of op-code 0x07. -/
def auxInstr (hi lo d1 : Byte) (rest : List Byte) : AuxFn → Instr
  | .auxOn => .boschAuxOn hi lo d1 rest
  | .auxOff => .boschAuxOff hi lo d1 rest
  | .presetSet => .boschPresetSet hi lo d1 rest
  | .presetShot => .boschPresetShot hi lo d1 rest
  | .cancelLatchingAux => .boschCancelLatchingAux hi lo d1 rest
  | .latchingAuxOn => .boschLatchingAuxOn hi lo d1 rest
  | .latchingAuxOff => .boschLatchingAuxOff hi lo d1 rest

/-- The function codes outside the table (R139). -/
abbrev unknownFnCodes : List (BitVec 4) := [0, 3, 6, 7, 11, 12, 13, 14, 15]

/-- A 4-bit code is a named function's or outside the table (R56). -/
theorem auxFnNumber_or_unknown (code : BitVec 4) :
    (∃ fn, auxFnNumber fn = code) ∨ code ∈ unknownFnCodes := by
  have h : ∀ c : BitVec 4, c ∈ [AuxFn.auxOn, .auxOff, .presetSet, .presetShot, .cancelLatchingAux,
      .latchingAuxOn, .latchingAuxOff].map auxFnNumber ∨ c ∈ unknownFnCodes := by decide
  refine (h code).imp_left fun hmem => ?_
  obtain ⟨fn, -, hfn⟩ := List.mem_map.mp hmem
  exact ⟨fn, hfn⟩

section
variable {sel : Fin 4} {hi lo d1 : Byte} {rest : List Byte}

theorem classifyAux_named {fn : AuxFn} (h : auxFnNumber fn = auxFnCode sel d1) :
    classifyAux sel hi lo d1 rest = auxInstr hi lo d1 rest fn := by
  cases fn <;> simp [classifyAux, ← h, auxFnNumber, auxInstr]

theorem classifyAux_unknown (h : auxFnCode sel d1 ∈ unknownFnCodes) :
    classifyAux sel hi lo d1 rest = .boschAuxUnknownFn hi lo d1 rest := by
  have hne : ∀ c ∈ unknownFnCodes, c.toNat ∉ [1, 2, 4, 5, 8, 9, 10] := by decide
  have hcode := hne _ h
  unfold classifyAux
  split
  case h_8 => rfl
  all_goals simp_all

theorem encode_auxInstr (fn : AuxFn) :
    encode (auxInstr hi lo d1 rest fn) = encodeB (hi :: lo :: 0x07 :: d1 :: rest) := by
  cases fn <;> rfl

theorem wf_auxInstr (fn : AuxFn) :
    (auxInstr hi lo d1 rest fn).wf = auxWf [auxFnNumber fn] hi lo d1 rest := by
  cases fn <;> rfl

end

/-- `i` is written with the payload `p`, which has at most 126 bytes, all 7-bit, and classifies as `i`
(R46, R47). -/
structure BoschPayload (i : Instr) (p : List Byte) : Prop where
  encode_eq : encode i = encodeB p
  length_le : p.length ≤ 126
  low : allLow7 p = true
  classify_eq : classifyB Config.default.auxFnSel p = i

/-- What the op-code 0x07 rows share: the function code alone selects the row. -/
theorem boschPayload_aux {codes : List (BitVec 4)} {hi lo d1 : Byte} {rest : List Byte} {i : Instr}
    (hwf : auxWf codes hi lo d1 rest = true)
    (henc : encode i = encodeB (hi :: lo :: 0x07 :: d1 :: rest))
    (hcodes : ∀ code ∈ codes, auxFnCode 0 d1 = code → classifyAux 0 hi lo d1 rest = i) :
    BoschPayload i (hi :: lo :: 0x07 :: d1 :: rest) := by
  simp only [auxWf, Bool.and_eq_true, decide_eq_true_eq, List.contains_iff_mem] at hwf
  obtain ⟨⟨⟨⟨⟨hhi, hlo⟩, hd1⟩, hrest⟩, hlen⟩, hcode⟩ := hwf
  refine ⟨henc, by simp only [List.length_cons]; omega, ?_, hcodes _ hcode rfl⟩
  simp only [allLow7_cons, hhi, hlo, hd1, hrest, Bool.and_true, Bool.true_and]
  rfl

/-- Every well-formed Bosch command has a payload. -/
theorem exists_boschPayload {i : Instr} (hwf : i.wf = true) (hf : i.format = .bosch) :
    ∃ p, BoschPayload i p := by
  cases i with
  | boschShort payload =>
    simp only [Instr.wf, Bool.and_eq_true, decide_eq_true_eq] at hwf
    obtain ⟨hlen, hlow⟩ := hwf
    exact ⟨payload, rfl, by omega, hlow, classifyB_short _ hlen⟩
  | boschVarSpeed hi lo d1 d2 d3 rest =>
    simp only [Instr.wf, Bool.and_eq_true, decide_eq_true_eq] at hwf
    obtain ⟨⟨hfields, hrest⟩, hlen⟩ := hwf
    refine ⟨hi :: lo :: 0x05 :: d1 :: d2 :: d3 :: rest, rfl, ?_, ?_, rfl⟩
    · simp only [List.length_cons]; omega
    · have hop : low7 5#8 = true := rfl
      simpa [hrest, hop] using hfields
  | boschAuxOn | boschAuxOff | boschPresetSet | boschPresetShot | boschCancelLatchingAux
  | boschLatchingAuxOn | boschLatchingAuxOff | boschAuxUnknownFn =>
    exact ⟨_, boschPayload_aux hwf rfl (by simp +contextual [classifyAux])⟩
  | boschOp hi lo op data =>
    simp only [Instr.wf, Bool.and_eq_true, Bool.or_eq_true, bne_iff_ne, decide_eq_true_eq,
      List.isEmpty_iff] at hwf
    obtain ⟨⟨⟨⟨⟨hfields, hdata⟩, hlen⟩, hn⟩, h5⟩, h7⟩ := hwf
    refine ⟨hi :: lo :: op :: data, rfl, by simp only [List.length_cons]; omega, ?_,
      classifyOp_named hn h5.neg_resolve_left h7.neg_resolve_left⟩
    simpa [hdata] using hfields
  | boschUnknownOp hi lo op data =>
    simp only [Instr.wf, Bool.and_eq_true, decide_eq_true_eq, Bool.not_eq_true'] at hwf
    obtain ⟨⟨⟨hfields, hdata⟩, hlen⟩, hn⟩ := hwf
    refine ⟨hi :: lo :: op :: data, rfl, by simp only [List.length_cons]; omega, ?_,
      classifyOp_unknown hn⟩
    simpa [hdata] using hfields
  | _ => cases hf

/-! ### Decoding an encoding -/

theorem decodeTransaction_encode {i : Instr} (hf : i.format = .transaction) :
    decode Config.default .transaction (encode i) = .ok i := by
  cases i with
  | ingest b => rfl
  | reset v b => cases v <;> rfl
  | _ => cases hf

theorem decodeD_encode {i : Instr} (hwf : i.wf = true) (hf : i.format = .pelcoD) :
    decodeD Config.default (encode i) = .ok i := by
  cases i with
  | pdStd a c1 c2 d1 d2 =>
    have hbit : c2[0] = false := by simpa [Instr.wf] using hwf
    exact (decodeD_encodeD _ rfl ..).trans (congrArg Except.ok (classifyD_standard hbit))
  | pdExtUnknown a c1 c2 d1 d2 =>
    simp only [Instr.wf, Bool.and_eq_true, Option.isNone_iff_eq_none] at hwf
    obtain ⟨hbit, hnone⟩ := hwf
    exact (decodeD_encodeD _ rfl ..).trans (congrArg Except.ok (classifyD_unknown hbit hnone))
  | pdSetPreset | pdClearPreset | pdGotoPreset | pdSetAux | pdClearAux | pdStartRecTour
  | pdStopRecTour | pdStartTour | pdSetZoomSpeed => exact decodeD_encodeExtD _ _ _
  | _ => cases hf

theorem decodeP_encode {i : Instr} (hwf : i.wf = true) (hf : i.format = .pelcoP) :
    decodeP Config.default (encode i) = .ok i := by
  cases i with
  | ppStd a c1 c2 d1 d2 =>
    have hbit : c2[0] = false := by simpa [Instr.wf] using hwf
    exact (decodeP_encodeP ..).trans (congrArg Except.ok (classifyP_standard hbit))
  | ppExtUnknown a c1 c2 d1 d2 =>
    simp only [Instr.wf, Bool.and_eq_true, Option.isNone_iff_eq_none] at hwf
    obtain ⟨hbit, hnone⟩ := hwf
    exact (decodeP_encodeP ..).trans (congrArg Except.ok (classifyP_unknown hbit hnone))
  | ppSetPreset | ppClearPreset | ppGotoPreset | ppSetAux | ppClearAux | ppStartRecTour
  | ppStopRecTour | ppStartTour | ppSetZoomSpeed => exact decodeP_encodeExtP _ _ _
  | _ => cases hf

theorem decodeB_encode {i : Instr} (hwf : i.wf = true) (hf : i.format = .bosch) :
    decodeB Config.default (encode i) = .ok i := by
  obtain ⟨p, hp⟩ := exists_boschPayload hwf hf
  rw [hp.encode_eq, decodeB_encodeB _ hp.length_le, hp.classify_eq]

/-- Settles O18: by format, and there by the bytes or the payload that the frame is written around. -/
theorem decodeEncodeAgree : Obligations.DecodeEncodeAgree := by
  intro i hwf
  cases hf : i.format with
  | transaction => exact decodeTransaction_encode hf
  | pelcoD => exact decodeD_encode hwf hf
  | pelcoP => exact decodeP_encode hwf hf
  | bosch => exact decodeB_encode hwf hf

/-! ### Encoding what was decoded -/

theorem encode_extInstrD (a d2 : Byte) (act : ExtAct) :
    encode (extInstrD a d2 act) = encodeExtD act a d2 := by cases act <;> rfl

theorem encode_extInstrP (a d2 : Byte) (act : ExtAct) :
    encode (extInstrP a d2 act) = encodeExtP act a d2 := by cases act <;> rfl

theorem wf_extInstrD (a d2 : Byte) (act : ExtAct) : (extInstrD a d2 act).wf = true := by
  cases act <;> rfl

theorem wf_extInstrP (a d2 : Byte) (act : ExtAct) : (extInstrP a d2 act).wf = true := by
  cases act <;> rfl

/-- The command that lane D reads from command bytes is written with these bytes: an action's row in
the default table is the action's code between two zeros. -/
theorem encode_classifyD (a c1 c2 d1 d2 : Byte) :
    encode (classifyD defaultExtLut a c1 c2 d1 d2) = encodeD a c1 c2 d1 d2 ∧
      (classifyD defaultExtLut a c1 c2 d1 d2).wf = true := by
  cases hbit : c2[0] with
  | false => rw [classifyD_standard hbit]; exact ⟨rfl, by simp [Instr.wf, hbit]⟩
  | true =>
    cases hact : extLookup defaultExtLut c1 c2 d1 with
    | none => rw [classifyD_unknown hbit hact]; exact ⟨rfl, by simp [Instr.wf, hbit, hact]⟩
    | some act =>
      rw [classifyD_action hbit hact]
      obtain ⟨rfl, rfl, rfl⟩ := (extLookup_default_iff ..).mp hact
      exact ⟨encode_extInstrD a d2 act, wf_extInstrD a d2 act⟩

/-- The same on lane P. -/
theorem encode_classifyP (a c1 c2 d1 d2 : Byte) :
    encode (classifyP defaultExtLut a c1 c2 d1 d2) = encodeP a c1 c2 d1 d2 ∧
      (classifyP defaultExtLut a c1 c2 d1 d2).wf = true := by
  cases hbit : c2[0] with
  | false => rw [classifyP_standard hbit]; exact ⟨rfl, by simp [Instr.wf, hbit]⟩
  | true =>
    cases hact : extLookup defaultExtLut c1 c2 d1 with
    | none => rw [classifyP_unknown hbit hact]; exact ⟨rfl, by simp [Instr.wf, hbit, hact]⟩
    | some act =>
      rw [classifyP_action hbit hact]
      obtain ⟨rfl, rfl, rfl⟩ := (extLookup_default_iff ..).mp hact
      exact ⟨encode_extInstrP a d2 act, wf_extInstrP a d2 act⟩

/-- The four things that the op-code arms can answer (R124, R128, R140, R141). -/
theorem classifyOp_cases (sel : Fin 4) (hi lo op : Byte) (data : List Byte) :
    (∃ d1 d2 d3 rest, op = 0x05 ∧ data = d1 :: d2 :: d3 :: rest ∧
      classifyOp sel hi lo op data = .boschVarSpeed hi lo d1 d2 d3 rest) ∨
    (∃ d1 rest, op = 0x07 ∧ data = d1 :: rest ∧
      classifyOp sel hi lo op data = classifyAux sel hi lo d1 rest) ∨
    (boschNamed op = true ∧ (op = 0x05 → data.length < 3) ∧ (op = 0x07 → data = []) ∧
      classifyOp sel hi lo op data = .boschOp hi lo op data) ∨
    (boschNamed op = false ∧ classifyOp sel hi lo op data = .boschUnknownOp hi lo op data) := by
  cases hn : boschNamed op with
  | false => exact .inr (.inr (.inr ⟨rfl, classifyOp_unknown hn⟩))
  | true =>
    by_cases hspeed : op = 0x05 ∧ 3 ≤ data.length
    · obtain ⟨rfl, hlen⟩ := hspeed
      match data, hlen with
      | d1 :: d2 :: d3 :: rest, _ => exact .inl ⟨d1, d2, d3, rest, rfl, rfl, rfl⟩
    by_cases haux : op = 0x07 ∧ data ≠ []
    · obtain ⟨rfl, hne⟩ := haux
      obtain ⟨d1, rest, rfl⟩ := List.exists_cons_of_ne_nil hne
      exact .inr (.inl ⟨d1, rest, rfl, rfl, rfl⟩)
    have h5 : op = 0x05 → data.length < 3 := fun h => Nat.lt_of_not_le fun hle => hspeed ⟨h, hle⟩
    have h7 : op = 0x07 → data = [] := fun h => Decidable.not_not.mp fun hne => haux ⟨h, hne⟩
    exact .inr (.inr (.inl ⟨rfl, h5, h7, classifyOp_named hn h5 h7⟩))

/-- The command that lane B reads from a payload is written with this payload. -/
theorem encode_classifyB (sel : Fin 4) (payload : List Byte) :
    encode (classifyB sel payload) = encodeB payload := by
  match payload with
  | [] | [_] | [_, _] => rfl
  | hi :: lo :: op :: data =>
    rw [classifyB]
    obtain ⟨d1, d2, d3, rest, rfl, rfl, hop⟩ | ⟨d1, rest, rfl, rfl, hop⟩ | ⟨-, -, -, hop⟩ | ⟨-, hop⟩ :=
      classifyOp_cases sel hi lo op data
    · rw [hop]; rfl
    · rw [hop]
      obtain ⟨fn, hfn⟩ | hcode := auxFnNumber_or_unknown (auxFnCode sel d1)
      · rw [classifyAux_named hfn, encode_auxInstr]
      · rw [classifyAux_unknown hcode]; rfl
    · rw [hop]; rfl
    · rw [hop]; rfl

/-- The command that op-code 0x07 selects is well-formed. -/
theorem wf_classifyAux {hi lo d1 : Byte} {rest : List Byte}
    (hlow : allLow7 (hi :: lo :: d1 :: rest) = true) (hlen : rest.length ≤ 122) :
    (classifyAux 0 hi lo d1 rest).wf = true := by
  have haux {codes : List (BitVec 4)} (h : auxFnCode 0 d1 ∈ codes) :
      auxWf codes hi lo d1 rest = true := by
    simp only [allLow7_cons, Bool.and_eq_true] at hlow
    simp [auxWf, hlow, hlen, h]
  obtain ⟨fn, hfn⟩ | hcode := auxFnNumber_or_unknown (auxFnCode 0 d1)
  · rw [classifyAux_named hfn, wf_auxInstr]
    exact haux (by simp [hfn])
  · rw [classifyAux_unknown hcode]
    exact haux hcode

/-- The command that lane B reads from a payload of at most 126 7-bit bytes is well-formed. -/
theorem wf_classifyB {payload : List Byte} (hlen : payload.length ≤ 126)
    (hlow : allLow7 payload = true) : (classifyB 0 payload).wf = true := by
  match payload with
  | [] | [_] | [_, _] => simp_all [classifyB, Instr.wf]
  | hi :: lo :: op :: data =>
    simp only [List.length_cons] at hlen
    rw [classifyB]
    obtain ⟨d1, d2, d3, rest, rfl, rfl, hop⟩ | ⟨d1, rest, rfl, rfl, hop⟩ | ⟨hn, h5, h7, hop⟩ |
      ⟨hn, hop⟩ := classifyOp_cases 0 hi lo op data
    all_goals
      rw [hop]
      simp only [List.length_cons, allLow7_cons, Bool.and_eq_true] at hlow hlen
    · have hrest : rest.length ≤ 120 := by omega
      simp [Instr.wf, hlow, hrest]
    · exact wf_classifyAux (by simp [hlow]) (by omega)
    · have hdata : data.length ≤ 123 := by omega
      simpa [Instr.wf, hlow, hdata, hn, ← imp_iff_not_or] using ⟨h5, h7⟩
    · have hdata : data.length ≤ 123 := by omega
      simp [Instr.wf, hlow, hdata, hn]

/-- Lane B accepts exactly what the encoder writes around a payload (R46, R81, R82). The declared
length is not 0: the checksum of no bytes is 0, and a header is not (R84). -/
theorem decodeB_ok_encodeB {cfg : Config} {w : List Byte} {i : Instr} (h : decodeB cfg w = .ok i) :
    ∃ payload, payload.length ≤ 126 ∧ w = encodeB payload ∧ i = classifyB cfg.auxFnSel payload := by
  obtain ⟨header, tail, _, rfl, h7, hlen, hck, rfl⟩ := decodeB_ok cfg w i h
  obtain rfl | ⟨payload, ck, rfl⟩ := tail.eq_nil_or_concat
  · obtain rfl : (0 : Byte) = header := hck
    cases h7
  · have hlt := declaredLen_lt header
    simp only [List.concat_eq_append, List.length_append, List.length_singleton] at hlen
    have hck' : cksumB (header :: payload) = ck := by
      simpa [List.dropLast_cons_of_ne_nil] using hck
    refine ⟨payload, by omega, ?_, by simp⟩
    rw [encodeB_eq, hlen, headerOf_declaredLen h7, hck', List.concat_eq_append]

/-- Settles O19: the frame is read as a command of its own bytes, and these are what the command is
written with. -/
theorem acceptedFramesAreTheirEncoding : Obligations.AcceptedFramesAreTheirEncoding := by
  refine ⟨fun w i h => ?_, fun w i h => ?_, fun w i h => ?_⟩
  · obtain ⟨a, c1, c2, d1, d2, rfl, rfl⟩ := decodeD_ok _ _ _ h
    exact encode_classifyD a c1 c2 d1 d2
  · obtain ⟨a, c1, c2, d1, d2, rfl, rfl⟩ := decodeP_ok _ _ _ h
    exact encode_classifyP a c1 c2 d1 d2
  · obtain ⟨payload, hlen, rfl, rfl⟩ := decodeB_ok_encodeB h
    refine ⟨encode_classifyB _ payload, fun hlow => wf_classifyB hlen ?_⟩
    have hboth : allLow7 (payload ++ [cksumB (headerOf (payload.length + 1) :: payload)]) = true :=
      hlow
    simp only [allLow7_append, Bool.and_eq_true] at hboth
    exact hboth.left

/-! ### Frame formats -/

/-- Every lane D command is written as a Pelco D frame. -/
theorem encode_pelcoD {i : Instr} (hf : i.format = .pelcoD) :
    ∃ a c1 c2 d1 d2, encode i = encodeD a c1 c2 d1 d2 := by
  cases i with
  | pdStd | pdExtUnknown | pdSetPreset | pdClearPreset | pdGotoPreset | pdSetAux | pdClearAux
  | pdStartRecTour | pdStopRecTour | pdStartTour | pdSetZoomSpeed => exact ⟨_, _, _, _, _, rfl⟩
  | _ => cases hf

/-- Every lane P command is written as a Pelco P frame. -/
theorem encode_pelcoP {i : Instr} (hf : i.format = .pelcoP) :
    ∃ a c1 c2 d1 d2, encode i = encodeP a c1 c2 d1 d2 := by
  cases i with
  | ppStd | ppExtUnknown | ppSetPreset | ppClearPreset | ppGotoPreset | ppSetAux | ppClearAux
  | ppStartRecTour | ppStopRecTour | ppStartTour | ppSetZoomSpeed => exact ⟨_, _, _, _, _, rfl⟩
  | _ => cases hf

/-- Settles O20: the three frame shapes; the checksum byte is the one that the checksum formulas
compute. -/
theorem encodingsHaveTheFrameFormats : Obligations.EncodingsHaveTheFrameFormats := by
  refine ⟨fun i hf => ?_, fun i hf => ?_, fun i hwf hf => ?_⟩
  · obtain ⟨a, c1, c2, d1, d2, h⟩ := encode_pelcoD hf
    rw [h]
    exact ⟨rfl, rfl, (cksumD_eq_iff Config.syncD a c1 c2 d1 d2 _).mp rfl⟩
  · obtain ⟨a, c1, c2, d1, d2, h⟩ := encode_pelcoP hf
    rw [h]
    exact ⟨rfl, rfl, rfl, (cksumP_eq_foldl ..).symm⟩
  · obtain ⟨p, hp⟩ := exists_boschPayload hwf hf
    have hle := hp.length_le
    have hck := (cksumB_eq_iff (headerOf (p.length + 1) :: p) _).mp rfl
    rw [hp.encode_eq, encodeB_eq]
    refine ⟨p.length + 1, by omega, by omega, by simp, headerOf_toNat (by omega), ?_, ?_⟩
    · simp [hp.low, cksumB_low]
    · simpa using hck

/-- Settles O21, frame by frame. -/
theorem writtenOutFramesDecode : Obligations.WrittenOutFramesDecode := by
  refine ⟨?_, ?_, ?_, ?_, ?_, ?_, ?_, ?_⟩ <;> decide

end Sys2Proof.Machine
end

section
/-! The stages of INGEST seen lane by lane (R66, R67, R77, R80, R83). A byte enters the three windows;
then what stands in a lane's window and on its port is what the lane's own detector makes of the
pushed window, because the other two detectors leave the lane alone. -/

namespace Sys2Proof.Machine

/-! ### The windows and decoders by lane -/

/-- The window update of a lane (R69, R70, R71). -/
def pushLane : Lane → List Byte → Byte → List Byte
  | .D => pushWindow Config.capD
  | .P => pushWindow Config.capP
  | .B => pushWindowB

/-- The decoder of a lane, on any bytes. -/
def decodeWindow : Lane → Config → List Byte → Decoded
  | .D => decodeD
  | .P => decodeP
  | .B => decodeB

/-- The capacity of a lane's window (R16). -/
def laneCap : Lane → Nat
  | .D => Config.capD
  | .P => Config.capP
  | .B => Config.capB

theorem State.decodeLane_eq (s : State) (l : Lane) :
    s.decodeLane l = decodeWindow l s.cfg (s.window l) := by cases l <;> rfl

@[simp] theorem State.take_window (s : State) (b : Byte) (l : Lane) :
    (s.take b).window l = pushLane l (s.window l) b := by cases l <;> rfl

@[simp] theorem State.take_port (s : State) (b : Byte) (l : Lane) : (s.take b).port l = none := by
  cases l <;> rfl

@[simp] theorem State.quiet_window (s : State) (l : Lane) : s.quiet.window l = s.window l := by
  cases l <;> rfl

@[simp] theorem State.quiet_port (s : State) (l : Lane) : s.quiet.port l = none := by cases l <;> rfl

@[simp] theorem State.withInput_window (s : State) (xs : List Transaction) (l : Lane) :
    State.window { s with input := xs } l = s.window l := by cases l <;> rfl

theorem pushLane_ne_nil (l : Lane) (w : List Byte) (b : Byte) : pushLane l w b ≠ [] := by
  cases l <;> exact pushWindow_ne_nil _ _ _

theorem pushLane_length_le {l : Lane} {w : List Byte} (b : Byte) (h : w.length ≤ laneCap l) :
    (pushLane l w b).length ≤ laneCap l := by
  cases l with
  | D | P => exact pushWindow_length_le _ w b (by decide) h
  | B => exact pushWindowB_length_le w b h

/-! ### One detector -/

/-- The parts of an event that its lane and its kind settle (R60). -/
structure Event.FitsLane (e : Event) (l : Lane) : Prop where
  lane : e.lane = l
  kind : kindOfLane l e.kind = true
  camera : e.camera.isNone = noCamera e.kind

/-- The event of an accepted frame is the lane's. -/
theorem exec_decoded_fitsLane {l : Lane} {s t : State} {i : Instr} (h : s.decodeLane l = .ok i)
    (ht : exec i s = .next t) : ∃ e, t.port l = some e ∧ e.FitsLane l := by
  rw [← runFrame_eq_exec i s (decodeLane_format_ne h)] at ht
  cases l with
  | D =>
    obtain ⟨k, c, hk, hcam, hr⟩ := runFrame_pelcoD i s (decodeD_format _ _ _ h)
    obtain rfl := Host.Outcome.next.inj (hr.symm.trans ht)
    exact ⟨_, rfl, rfl, hk, hcam.symm⟩
  | P =>
    obtain ⟨k, c, hk, hcam, hr⟩ := runFrame_pelcoP i s (decodeP_format _ _ _ h)
    obtain rfl := Host.Outcome.next.inj (hr.symm.trans ht)
    exact ⟨_, rfl, rfl, hk, hcam.symm⟩
  | B =>
    obtain ⟨k, c, hk, hcam, hr⟩ := runFrame_bosch i s (decodeB_format _ _ _ h)
    obtain rfl := Host.Outcome.next.inj (hr.symm.trans ht)
    exact ⟨_, rfl, rfl, hk, hcam⟩

/-- What lane `l`'s detector makes of a state `s` whose port `l` is clear. -/
structure LaneDetected (l : Lane) (s t : State) : Prop where
  outcome : laneOutcome l (s.decodeLane l) (s.window l) t
  others : sameButLane l s t
  event : ∀ e, t.port l = some e → e.FitsLane l ∧ e.raw = s.window l
  trace : t.trace = s.trace ++ (t.port l).toList

/-- Every detector completes and does what its lane's decoder says (R77, R80, R83, R86 to R89). -/
theorem detect_laneDetected {l : Lane} {s : State} (hport : s.port l = none) :
    ∃ t, detect l s = .next t ∧ LaneDetected l s t := by
  match hr : s.decodeLane l with
  | .ok i =>
    obtain ⟨t, e, hd, he, ⟨hlane, hraw, hp, htrace, hwin, hothers⟩, hk⟩ := detect_decoded_accepts hr
    obtain ⟨e', hp', hfits⟩ := exec_decoded_fitsLane hr he
    obtain rfl : e = e' := Option.some.inj (hp.symm.trans hp')
    refine ⟨t, hd, ?_, hothers, fun e'' he'' => ?_, by rw [htrace, hp]; rfl⟩
    · rw [hr]; exact ⟨hwin, e, hp, hlane, hk, hraw⟩
    · obtain rfl : e = e'' := Option.some.inj (hp.symm.trans he'')
      exact ⟨hfits, hraw⟩
  | .error .checksum =>
    have hp : (s.reportMismatch l).port l = some ⟨l, .mismatch, none, s.window l⟩ := by
      cases l <;> rfl
    refine ⟨_, detect_of_checksum hr, ?_, sameButLane_reportMismatch l s, fun e he => ?_, ?_⟩
    · rw [hr]; exact ⟨by cases l <;> rfl, hp⟩
    · obtain rfl := Option.some.inj (hp.symm.trans he)
      exact ⟨⟨rfl, by cases l <;> rfl, rfl⟩, rfl⟩
    · rw [hp]; cases l <;> rfl
  | .error .length | .error .sync | .error .endByte | .error .idle | .error .transaction =>
    refine ⟨s, detect_of_not_evaluated l s (by simp [hr]), ?_, sameButLane_refl l s, ?_, ?_⟩
    · rw [hr]; exact ⟨rfl, hport⟩
    · intro e he; rw [hport] at he; cases he
    · rw [hport]; exact (List.append_nil _).symm

/-! ### The three detectors -/

theorem LaneAgree.refl (l : Lane) (s : State) : LaneAgree l s s := ⟨⟨rfl, rfl, rfl⟩, rfl⟩

theorem LaneAgree.trans {l : Lane} {s t u : State} (h : LaneAgree l s t) (h' : LaneAgree l t u) :
    LaneAgree l s u :=
  ⟨⟨h.cfg.trans h'.cfg, h.input.trans h'.input, h.window.trans h'.window⟩, h.port.trans h'.port⟩

/-- Another lane's detector leaves agreement with any state as it is. -/
theorem LaneAgree.after_other {l m : Lane} {s t t' : State} (h : LaneAgree l s t) (hlm : l ≠ m)
    (ht : sameButLane m t t') : LaneAgree l s t' :=
  h.of_sameButLane hlm (sameButLane_refl m s) ht

/-- The lane's own detector, run later on an agreeing state, does what it does at once. -/
theorem LaneAgree.after_own {l : Lane} {s t t' : State} (h : LaneAgree l s t)
    (hd : Machine.detect l t = .next t') : ∃ u, Machine.detect l s = .next u ∧ LaneAgree l u t' := by
  obtain ⟨u, t'', hu, ht'', hagree⟩ := h.detect_own
  obtain rfl := Host.Outcome.next.inj (ht''.symm.trans hd)
  exact ⟨u, hu, hagree⟩

/-- What INGEST leaves of `s`: each lane as its own detector leaves it after the byte is taken, and
the presented events recorded in lane order (R66, R67, R40). -/
structure Ingested (s : State) (b : Byte) (t : State) : Prop where
  lane : ∀ l, ∃ u, detect l (s.take b) = .next u ∧ LaneAgree l u t
  trace : t.trace = s.trace ++ t.presented
  pos : t.pos = s.pos + 1
  input : t.input = s.input
  cfg : t.cfg = s.cfg

/-- INGEST completes: the lanes' detectors run in their order, none in another's way. -/
theorem ingest_ingested (s : State) (b : Byte) :
    ∃ t, exec (.ingest b) s = .next t ∧ Ingested s b t := by
  obtain ⟨u, hu, du⟩ := detect_laneDetected (State.take_port s b .D)
  have hP := (LaneAgree.refl .P (s.take b)).after_other (by decide) du.others
  obtain ⟨v, hv, dv⟩ := detect_laneDetected (hP.port.symm.trans (State.take_port s b .P))
  have hB := ((LaneAgree.refl .B (s.take b)).after_other (by decide) du.others).after_other
    (by decide) dv.others
  obtain ⟨t, ht, dt⟩ := detect_laneDetected (hB.port.symm.trans (State.take_port s b .B))
  have hDt : LaneAgree .D u t :=
    ((LaneAgree.refl .D u).after_other (by decide) dv.others).after_other (by decide) dt.others
  have hPt : LaneAgree .P v t := (LaneAgree.refl .P v).after_other (by decide) dt.others
  obtain ⟨x, hx, hxv⟩ := hP.after_own hv
  obtain ⟨y, hy, hyt⟩ := hB.after_own ht
  obtain ⟨-, hupos, huinput, hucfg⟩ := du.others
  obtain ⟨-, hvpos, hvinput, hvcfg⟩ := dv.others
  obtain ⟨-, htpos, htinput, htcfg⟩ := dt.others
  refine ⟨t, ?_, fun l => ?_, ?_, ?_, ?_, ?_⟩
  · rw [execIngest_eq, hu, andThen_next, hv, andThen_next, ht]
  · cases l with
    | D => exact ⟨u, hu, hDt⟩
    | P => exact ⟨x, hx, hxv.trans hPt⟩
    | B => exact ⟨y, hy, hyt⟩
  · rw [dt.trace, dv.trace, du.trace, hDt.port, hPt.port]
    simp only [State.take_trace, State.presented, List.append_assoc, State.port]
  · rw [htpos, hvpos, hupos, State.take_pos]
  · rw [htinput, hvinput, huinput, State.take_input]
  · rw [htcfg, hvcfg, hucfg, State.take_cfg]

/-- An outcome is about the lane's window and port alone. -/
theorem laneOutcome_congr {l : Lane} {s t : State} (h : LaneAgree l s t) {r : Decoded}
    {w : List Byte} (ho : laneOutcome l r w s) : laneOutcome l r w t := by
  have hw := h.window
  have hp := h.port
  unfold laneOutcome at *
  split <;> simpa only [← hw, ← hp] using ho

section
variable {s t : State} {b : Byte} (h : Ingested s b t)
include h

/-- Each lane accepts, reports or is silent as its decoder says of the pushed window (R66). -/
theorem Ingested.outcome (l : Lane) :
    laneOutcome l (decodeWindow l s.cfg (pushLane l (s.window l) b)) (pushLane l (s.window l) b) t := by
  obtain ⟨u, hu, hut⟩ := h.lane l
  obtain ⟨u', hu', d⟩ := detect_laneDetected (State.take_port s b l)
  obtain rfl := Host.Outcome.next.inj (hu.symm.trans hu')
  have houtcome := laneOutcome_congr hut d.outcome
  rwa [State.decodeLane_eq, State.take_window] at houtcome

/-- What a lane presents is an event of its own, with the pushed window as raw bytes (R60, R85). -/
theorem Ingested.event {l : Lane} {e : Event} (he : t.port l = some e) :
    e.FitsLane l ∧ e.raw = pushLane l (s.window l) b := by
  obtain ⟨u, hu, hut⟩ := h.lane l
  obtain ⟨u', hu', d⟩ := detect_laneDetected (State.take_port s b l)
  obtain rfl := Host.Outcome.next.inj (hu.symm.trans hu')
  have hevent := d.event e (hut.port.trans he)
  rwa [State.take_window] at hevent

/-- A lane that succeeds empties its window, but for lane B; any other outcome keeps the pushed
window (R86 to R89). -/
theorem Ingested.succeeded_or_kept (l : Lane) :
    (t.succeeded l ∧ t.window l = if l = .B then pushLane l (s.window l) b else []) ∨
      (¬ t.succeeded l ∧ t.window l = pushLane l (s.window l) b) := by
  have ho := h.outcome l
  unfold laneOutcome at ho
  split at ho
  · obtain ⟨hwin, e, hport, -, hk, -⟩ := ho
    exact .inl ⟨⟨e, hport, hk⟩, hwin⟩
  · obtain ⟨hwin, hport⟩ := ho
    refine .inr ⟨?_, hwin⟩
    rintro ⟨e, he, hk⟩
    obtain rfl := Option.some.inj (hport.symm.trans he)
    exact hk rfl
  · obtain ⟨hwin, hport⟩ := ho
    refine .inr ⟨?_, hwin⟩
    rintro ⟨e, he, -⟩
    rw [hport] at he
    cases he

/-- A lane's new window is the pushed one or empty. -/
theorem Ingested.window_eq_or_nil (l : Lane) :
    t.window l = pushLane l (s.window l) b ∨ t.window l = [] := by
  obtain ⟨-, hwin⟩ | ⟨-, hwin⟩ := h.succeeded_or_kept l
  · rw [hwin]; split
    · exact .inl rfl
    · exact .inr rfl
  · exact .inl hwin

/-- Lane B keeps the pushed window, whatever its detector finds (R87 to R89). -/
theorem Ingested.winB : t.winB = pushWindowB s.winB b := by
  obtain ⟨-, hwin⟩ | ⟨-, hwin⟩ := h.succeeded_or_kept .B
  · rwa [if_pos rfl] at hwin
  · exact hwin

end

/-- Settles O12: each lane's outcome is its detector's, and the record grows by the three ports. -/
theorem ingestRunsTheThreeLanes : Obligations.IngestRunsTheThreeLanes := by
  intro s b
  obtain ⟨t, ht, h⟩ := ingest_ingested s b
  exact ⟨t, ht, h.outcome .D, h.outcome .P, h.outcome .B, h.trace, h.pos, h.input, h.cfg⟩

/-! ### A step -/

/-- The state that RESET leaves (R73). -/
def State.cleared (s : State) : State :=
  { s.quiet with winD := [], winP := [], winB := [], pos := 0 }

@[simp] theorem State.cleared_window (s : State) (l : Lane) : s.cleared.window l = [] := by
  cases l <;> rfl

@[simp] theorem State.cleared_port (s : State) (l : Lane) : s.cleared.port l = none := by
  cases l <;> rfl

theorem exec_reset_eq (s : State) (v : Bool) (b : Byte) :
    exec (.reset v b) s = .next s.cleared := rfl

/-- The three things that a step can do with the rest of the input standing (R27, R43, R66, R73). -/
theorem step_inv {s t : State} (h : step s = .next t) :
    ∃ rest, (t = State.quiet { s with input := rest }) ∨ (t = State.cleared { s with input := rest }) ∨
      ∃ b, Ingested { s with input := rest } b t := by
  obtain ⟨-, hs⟩ | ⟨x, rest, -, ⟨-, hs⟩ | ⟨-, -, hs⟩ | ⟨-, -, hs⟩⟩ := step_cases s
  · exact ⟨s.input, .inl (Host.Outcome.next.inj (h.symm.trans hs))⟩
  · exact ⟨rest, .inr (.inl (Host.Outcome.next.inj (h.symm.trans hs)))⟩
  · obtain ⟨t', ht', hi⟩ := ingest_ingested { s with input := rest } x.inByte
    obtain rfl := Host.Outcome.next.inj ((hs.trans ht').symm.trans h)
    exact ⟨rest, .inr (.inr ⟨_, hi⟩)⟩
  · exact ⟨rest, .inl (Host.Outcome.next.inj (h.symm.trans hs))⟩

/-- Settles O13. -/
theorem stepRunsTheOfferedTransaction : Obligations.StepRunsTheOfferedTransaction := by
  intro s x rest i hinput hdecode
  simp only [step, State.fetch, hinput, hdecode]

/-- Settles O14: the offered byte is an INGEST, and a detector runs what its lane decoded. -/
theorem stepRunsTheDecodedFrames : Obligations.StepRunsTheDecodedFrames := by
  refine ⟨fun s b rest hinput => ?_, fun s l i h => detect_of_decoded h⟩
  rw [step_of_inValid hinput rfl rfl]
  exact execIngest_eq b _

/-- Settles O15: both cases of a step that offers nothing clear the ports only. -/
theorem nothingOfferedChangesNothing : Obligations.NothingOfferedChangesNothing := by
  refine ⟨fun s hinput => ⟨_, step_of_input_nil hinput, ?_⟩,
    fun s b rest hinput => ⟨_, step_of_idle hinput rfl rfl, ?_⟩⟩
  · exact ⟨fun l => ⟨s.quiet_window l, s.quiet_port l⟩, rfl, hinput, rfl, rfl⟩
  · exact ⟨fun l => ⟨by simp, State.quiet_port _ l⟩, rfl, rfl, rfl, rfl⟩

/-- Settles O11. -/
theorem resetEmptiesEveryWindow : Obligations.ResetEmptiesEveryWindow := fun s v b =>
  ⟨_, exec_reset_eq s v b, fun l => ⟨s.cleared_window l, s.cleared_port l⟩, rfl, rfl, rfl, rfl⟩

/-- Settles O16: `rst` is read before `in_valid`, so the step is the RESET of O11. -/
theorem resetWinsOverTheOfferedByte : Obligations.ResetWinsOverTheOfferedByte := by
  intro s v b rest hinput
  rw [step_of_rst hinput rfl]
  exact resetEmptiesEveryWindow { s with input := rest } v b

/-! ### Invariants of every step -/

/-- Settles O38, by induction on the number of steps. -/
theorem parametersAreConstant : Obligations.ParametersAreConstant := by
  intro n
  induction n with
  | zero =>
    intro s t h
    obtain rfl := Host.Outcome.next.inj h
    rfl
  | succ n ih =>
    intro s t h
    obtain ⟨u, hu, -⟩ := step_completes_and_drops_one s
    rw [core_run_succ_of_next hu] at h
    have hcfg : u.cfg = s.cfg := by
      obtain ⟨rest, rfl | rfl | ⟨b, hi⟩⟩ := step_inv hu
      · rfl
      · rfl
      · exact hi.cfg
    exact (ih u t h).trans hcfg

/-- A port that holds an event of its own lane or none presents the lane's code at most. -/
theorem portCodes_sublist {l : Lane} {o : Option Event} (h : ∀ e, o = some e → e.lane = l) :
    (o.toList.map fun e => laneCode e.lane).Sublist [laneCode l] := by
  cases o with
  | none => exact List.nil_sublist _
  | some e => simp [h e rfl]

/-- The ports of a state in lane order, when each holds an event of its own lane: their codes are
some of 0, 1, 2 in that order. -/
theorem presentedCodes_sublist {t : State} (h : ∀ l e, t.port l = some e → e.lane = l) :
    (t.presented.map fun e => laneCode e.lane).Sublist [0, 1, 2] := by
  rw [State.presented, List.map_append, List.map_append]
  exact ((portCodes_sublist (h .D)).append (portCodes_sublist (h .P))).append
    (portCodes_sublist (h .B))

/-- Settles O39: a quiet step and a reset present nothing, and INGEST presents each lane's own event. -/
theorem eventsLeaveInLaneOrder : Obligations.EventsLeaveInLaneOrder := by
  intro s t h
  have hlane : ∀ l e, t.port l = some e → e.lane = l := by
    intro l e he
    obtain ⟨rest, rfl | rfl | ⟨b, hi⟩⟩ := step_inv h
    · simp at he
    · simp at he
    · exact (hi.event he).left.lane
  have htrace : t.trace = s.trace ++ t.presented := by
    obtain ⟨rest, rfl | rfl | ⟨b, hi⟩⟩ := step_inv h
    · exact (List.append_nil _).symm
    · exact (List.append_nil _).symm
    · exact hi.trace
  have hcodes := presentedCodes_sublist hlane
  exact ⟨htrace, by simpa using hcodes.length_le, .sublist hcodes (by decide), hlane⟩

/-- The window form, lane by lane (R16, R47). -/
theorem State.wf_iff (s : State) :
    s.wf = true ↔ (∀ l, (s.window l).length ≤ laneCap l) ∧ tailLow s.winB = true := by
  simp only [State.wf, Bool.and_eq_true, decide_eq_true_eq]
  constructor
  · rintro ⟨⟨⟨hD, hP⟩, hB⟩, htail⟩
    exact ⟨fun l => by cases l <;> assumption, htail⟩
  · rintro ⟨hcap, htail⟩
    exact ⟨⟨⟨hcap .D, hcap .P⟩, hcap .B⟩, htail⟩

/-- Settles O35: a window is as it was, empty or pushed. -/
theorem stepKeepsTheWindowForm : Obligations.StepKeepsTheWindowForm := by
  intro s t hwf h
  rw [State.wf_iff] at hwf ⊢
  obtain ⟨hcap, htail⟩ := hwf
  obtain ⟨rest, rfl | rfl | ⟨b, hi⟩⟩ := step_inv h
  · exact ⟨fun l => by simpa using hcap l, htail⟩
  · exact ⟨fun l => by simp, rfl⟩
  · refine ⟨fun l => ?_, ?_⟩
    · obtain hwin | hwin := hi.window_eq_or_nil l
      · rw [hwin]
        exact pushLane_length_le b (by simpa using hcap l)
      · simp [hwin]
    · rw [hi.winB]
      exact pushWindowB_tailLow s.winB b htail

/-- An event that fits its lane and carries 1 to 128 bytes is an event record (R60). -/
theorem Event.FitsLane.wf {e : Event} {l : Lane} (h : e.FitsLane l) (hne : e.raw ≠ [])
    (hle : e.raw.length ≤ 128) : e.wf = true := by
  have hpos : 1 ≤ e.raw.length := List.length_pos_iff.mpr hne
  simp [Event.wf, h.lane, h.kind, h.camera, hpos, hle]

/-- The soundness of a state, lane by lane. -/
theorem State.sound_iff (s : State) :
    s.sound = true ↔ s.wf = true ∧ (∀ l e, s.port l = some e → e.lane = l ∧ e.wf = true) ∧
      ∀ e ∈ s.trace, e.wf = true := by
  have hport (l : Lane) (o : Option Event) :
      portOk l o = true ↔ ∀ e, o = some e → e.lane = l ∧ e.wf = true := by
    cases o <;> simp [portOk]
  simp only [State.sound, Bool.and_eq_true, List.all_eq_true, hport]
  constructor
  · rintro ⟨⟨⟨⟨hwf, hD⟩, hP⟩, hB⟩, htrace⟩
    exact ⟨hwf, fun l => by cases l <;> assumption, htrace⟩
  · rintro ⟨hwf, hports, htrace⟩
    exact ⟨⟨⟨⟨hwf, hports .D⟩, hports .P⟩, hports .B⟩, htrace⟩

theorem mem_presented_iff {s : State} {e : Event} : e ∈ s.presented ↔ ∃ l, s.port l = some e := by
  constructor
  · simp only [State.presented, List.mem_append, Option.mem_toList]
    rintro ((h | h) | h)
    exacts [⟨.D, h⟩, ⟨.P, h⟩, ⟨.B, h⟩]
  · rintro ⟨l, h⟩
    cases l <;> simp_all [State.presented, State.port]

/-- Settles O36: the ports hold events of their lanes made of the pushed windows, whose length the
window form bounds, and only these are added to the record. -/
theorem stepKeepsTheStateSound : Obligations.StepKeepsTheStateSound := by
  intro s t hsound h
  obtain ⟨hwf, -, hrecord⟩ := s.sound_iff.mp hsound
  have hports : ∀ l e, t.port l = some e → e.lane = l ∧ e.wf = true := by
    intro l e he
    obtain ⟨rest, rfl | rfl | ⟨b, hi⟩⟩ := step_inv h
    · simp at he
    · simp at he
    · obtain ⟨hfits, hraw⟩ := hi.event he
      have hcap := pushLane_length_le b ((s.wf_iff.mp hwf).left l)
      have hmax : laneCap l ≤ 128 := by cases l <;> decide
      rw [State.withInput_window] at hraw
      exact ⟨hfits.lane, hfits.wf (hraw ▸ pushLane_ne_nil l _ b) (by rw [hraw]; omega)⟩
  obtain ⟨htrace, -⟩ := eventsLeaveInLaneOrder s t h
  refine t.sound_iff.mpr ⟨stepKeepsTheWindowForm s t hwf h, hports, fun e he => ?_⟩
  rw [htrace, List.mem_append, mem_presented_iff] at he
  obtain hold | ⟨l, hnew⟩ := he
  · exact hrecord e hold
  · exact (hports l e hnew).right

/-- Settles O37. -/
theorem resetStateIsSound : Obligations.ResetStateIsSound :=
  ⟨rfl, rfl, rfl, rfl, rfl, rfl⟩

end Sys2Proof.Machine
end

section
/-! Windows and single bytes: what a window holds after a stream of bytes (R69 to R71), and the
outcomes of one byte that its window settles (R84, R144). -/

namespace Sys2Proof.Machine

/-! ### Windows over a stream -/

/-- A push keeps the last `cap` bytes (R69, R70). -/
theorem pushWindow_eq_drop {cap : Nat} {w : List Byte} (b : Byte) (hcap : 0 < cap)
    (hw : w.length ≤ cap) : pushWindow cap w b = (w ++ [b]).drop (w.length + 1 - cap) := by
  unfold pushWindow
  split
  · next hlt => rw [Nat.sub_eq_zero_of_le hlt, List.drop_zero]
  · next hge =>
    have hone : w.length + 1 - cap = 1 := by omega
    rw [hone, List.drop_append_of_le_length (by omega)]

/-- Settles O32, by induction on the bytes: dropping what a push evicts and later what the rest evicts
is dropping both at once. -/
theorem windowHoldsTheLatestBytes : Obligations.WindowHoldsTheLatestBytes := by
  intro cap w bs hcap hw
  induction bs generalizing w with
  | nil => simp [Nat.sub_eq_zero_of_le hw]
  | cons b bs ih =>
    have hdrop : pushWindow cap w b ++ bs = (w ++ b :: bs).drop (w.length + 1 - cap) := by
      rw [pushWindow_eq_drop b hcap hw, List.append_cons w b bs,
        List.drop_append_of_le_length (l₁ := w ++ [b]) (by simp)]
    rw [List.foldl_cons, ih _ (pushWindow_length_le cap w b hcap hw), hdrop, List.drop_drop]
    congr 1
    simp only [List.length_drop, List.length_append, List.length_cons]
    omega

theorem low7_eq_true_iff (b : Byte) : low7 b = true ↔ b[7] = false := by simp [low7]

theorem low7_eq_false_iff (b : Byte) : low7 b = false ↔ b[7] = true := by simp [low7]

/-- Bytes with bit 7 clear are appended to lane B's window as long as they fit (R71). -/
theorem foldl_pushWindowB_low {w lows : List Byte} (hlow : allLow7 lows = true)
    (hlen : w.length + lows.length ≤ 128) : lows.foldl pushWindowB w = w ++ lows := by
  induction lows generalizing w with
  | nil => simp
  | cons b lows ih =>
    simp only [allLow7_cons, Bool.and_eq_true, low7_eq_true_iff, List.length_cons] at hlow hlen
    obtain ⟨hb, hlows⟩ := hlow
    have hroom : w.length < Config.capB := by show w.length < 128; omega
    have hpush : pushWindowB w b = w ++ [b] := by
      rw [pushWindowB_low w b hb, pushWindow_of_lt b hroom]
    rw [List.foldl_cons, hpush, ih hlows (by simp; omega), List.append_assoc, List.singleton_append]

/-- Settles O33: the header empties the window of all that came before, and the rest is appended. -/
theorem boschWindowBeginsAtTheLatestHeader : Obligations.BoschWindowBeginsAtTheLatestHeader := by
  intro w before lows header hheader hlow hlen
  rw [List.foldl_append, List.foldl_cons,
    pushWindowB_anchor _ _ ((low7_eq_false_iff header).mp hheader)]
  exact foldl_pushWindowB_low hlow (by simp; omega)

/-! ### Mismatches -/

/-- Settles O26: as O25 on lane D, by the legacy formula. -/
theorem legacyChecksum : Obligations.LegacyChecksum := by
  intro cfg w hlegacy hlen hsync
  obtain ⟨f0, a, c1, c2, d1, d2, ck, rfl⟩ := list_length_seven w hlen
  obtain rfl : f0 = 0xFF := hsync
  rw [matchFlag_decodeD_seven, hlegacy, and_iff_right rfl, cksumD, if_pos rfl,
    byte_ofNat_eq_iff (by omega)]
  simp [Nat.add_assoc]

/-- A pushed window with a wrong checksum is reported and kept, on any lane (R88, R144). -/
theorem ingest_reports_mismatch {l : Lane} {s : State} {b : Byte} {w : List Byte}
    (hpush : pushLane l (s.window l) b = w) (hck : decodeWindow l s.cfg w = .error .checksum) :
    ∃ t, exec (.ingest b) s = .next t ∧ t.window l = w ∧ t.port l = some ⟨l, .mismatch, none, w⟩ := by
  obtain ⟨t, ht, h⟩ := ingest_ingested s b
  have ho := h.outcome l
  rw [hpush, hck] at ho
  exact ⟨t, ht, ho⟩

/-- Settles O27: 0x80 is pushed alone, and its own value is not the checksum of no bytes. -/
theorem emptyBoschHeaderMismatches : Obligations.EmptyBoschHeaderMismatches := fun s =>
  ingest_reports_mismatch (l := .B) (pushWindowB_anchor s.winB 0x80 rfl) rfl

/-- A header alone is no frame: declaring more bytes it is not complete, and declaring none it is no
checksum of itself (R84). -/
theorem matchFlag_decodeB_singleton (cfg : Config) (header : Byte) :
    matchFlag (decodeB cfg [header]) = false := by
  rw [Bool.eq_false_iff, Ne, matchFlag_decodeB_cons]
  rintro ⟨⟨h7, -⟩, hck⟩
  obtain rfl : (0 : Byte) = header := hck
  cases h7

/-- A lane succeeds only where its decoder accepts the pushed window. -/
theorem Ingested.not_succeeded {l : Lane} {s t : State} {b : Byte} (h : Ingested s b t)
    (hm : matchFlag (decodeWindow l s.cfg (pushLane l (s.window l) b)) = false) :
    ¬ t.succeeded l := by
  have ho := h.outcome l
  rintro ⟨e, he, hk⟩
  unfold laneOutcome at ho
  split at ho
  · next hr => rw [hr] at hm; cases hm
  · obtain rfl := Option.some.inj (ho.right.symm.trans he)
    exact hk rfl
  · rw [ho.right] at he
    cases he

/-- A Bosch frame with another checksum byte is still complete, with a wrong checksum. -/
theorem decodeB_wrong_checksum (cfg : Config) {payload : List Byte} {ck : Byte}
    (hlen : payload.length ≤ 126) (hck : cksumB (headerOf (payload.length + 1) :: payload) ≠ ck) :
    decodeB cfg (headerOf (payload.length + 1) :: (payload ++ [ck])) = .error .checksum := by
  have hlen' : payload.length + 1 < 128 := by omega
  rw [decodeB_cons, headerOf_bit7 hlen', declaredLen_headerOf hlen']
  simp [List.dropLast_cons_of_ne_nil, hck]

/-- Settles O28: the changed byte completes the same structural match, whose checksum it is not; on
lane B a byte with bit 7 set is a new header instead. -/
theorem corruptedChecksumIsReported : Obligations.CorruptedChecksumIsReported := by
  refine ⟨fun s w i ck h hwin hne => ?_, fun s w i ck h hwin hne => ?_,
    fun s w i ck h hwin hne hlow => ?_, fun s ck hhigh => ?_⟩
  · obtain ⟨a, c1, c2, d1, d2, rfl, -⟩ := decodeD_ok _ _ _ h
    have hck : cksumD s.cfg.pdCksumLegacy Config.syncD a c1 c2 d1 d2 ≠ ck := by simpa using hne
    obtain ⟨t, ht, -, hport⟩ := ingest_reports_mismatch (l := .D) (s := s) (b := ck)
      (w := [Config.syncD, a, c1, c2, d1, d2, ck])
      (congrArg (pushWindow Config.capD · ck) hwin)
      (by rw [decodeWindow, decodeD_seven, if_neg (not_not_intro rfl), if_pos hck])
    exact ⟨t, ht, hport⟩
  · obtain ⟨a, c1, c2, d1, d2, rfl, -⟩ := decodeP_ok _ _ _ h
    have hck : cksumP Config.syncP a c1 c2 d1 d2 Config.endP ≠ ck := by simpa using hne
    obtain ⟨t, ht, -, hport⟩ := ingest_reports_mismatch (l := .P) (s := s) (b := ck)
      (w := [Config.syncP, a, c1, c2, d1, d2, Config.endP, ck])
      (congrArg (pushWindow Config.capP · ck) hwin)
      (by rw [decodeWindow, decodeP_eight, if_neg (not_not_intro rfl),
        if_neg (not_not_intro rfl), if_pos hck])
    exact ⟨t, ht, hport⟩
  · obtain ⟨payload, hlen, rfl, -⟩ := decodeB_ok_encodeB h
    have hbody : (encodeB payload).dropLast = headerOf (payload.length + 1) :: payload := by
      simp [encodeB_eq, List.dropLast_cons_of_ne_nil]
    have hck : cksumB (headerOf (payload.length + 1) :: payload) ≠ ck := by
      simpa [encodeB_eq, List.getLast?_cons] using hne
    rw [hbody] at hwin ⊢
    obtain ⟨t, ht, -, hport⟩ := ingest_reports_mismatch (l := .B) (s := s) (b := ck)
      (w := headerOf (payload.length + 1) :: (payload ++ [ck]))
      (by
        rw [State.window_B, hwin]
        exact foldl_pushWindowB_low (lows := [ck]) (by simp [hlow]) (by simp; omega))
      (decodeB_wrong_checksum s.cfg hlen hck)
    exact ⟨t, ht, hport⟩
  · obtain ⟨t, ht, hi⟩ := ingest_ingested s ck
    have hpush : pushWindowB s.winB ck = [ck] :=
      pushWindowB_anchor s.winB ck ((low7_eq_false_iff ck).mp hhigh)
    refine ⟨t, ht, hi.winB.trans hpush, hi.not_succeeded (l := .B) ?_⟩
    show matchFlag (decodeB s.cfg (pushWindowB s.winB ck)) = false
    rw [hpush]
    exact matchFlag_decodeB_singleton s.cfg ck

end Sys2Proof.Machine
end

section
/-! Runs (R33, R43, R72, R163): a step reads the first transaction of the input and not what stands
behind it, clears the ports before it does anything, and counts bytes by the transaction alone. -/

namespace Sys2Proof.Machine

/-! ### What stands behind the first transaction does not matter -/

/-- The state with another input. -/
abbrev State.withInput (s : State) (xs : List Transaction) : State := { s with input := xs }

/-- A change made to the next state, if there is one. -/
def onNext (f : State → State) (r : Result) : Result := andThen r fun s => .next (f s)

@[simp] theorem onNext_next (f : State → State) (s : State) : onNext f (.next s) = .next (f s) := rfl

theorem runFrame_withInput (i : Instr) (s : State) (xs : List Transaction) :
    runFrame i (s.withInput xs) = onNext (·.withInput xs) (runFrame i s) := by
  cases i <;> rfl

theorem detect_withInput (l : Lane) (s : State) (xs : List Transaction) :
    detect l (s.withInput xs) = onNext (·.withInput xs) (detect l s) := by
  have hdecode : (s.withInput xs).decodeLane l = s.decodeLane l := by cases l <;> rfl
  unfold detect
  rw [hdecode]
  match s.decodeLane l with
  | .ok i => exact runFrame_withInput i s xs
  | .error .checksum => cases l <;> rfl
  | .error .length | .error .sync | .error .endByte | .error .idle | .error .transaction => rfl

/-- INGEST reads nothing of the input. -/
theorem execIngest_withInput (b : Byte) {s t : State} (h : exec (.ingest b) s = .next t)
    (xs : List Transaction) : exec (.ingest b) (s.withInput xs) = .next (t.withInput xs) := by
  rw [execIngest_eq] at h ⊢
  obtain ⟨v, hv, ht⟩ := (andThen_eq_next _ _ _).mp h
  obtain ⟨u, hu, hv⟩ := (andThen_eq_next _ _ _).mp hv
  have htake : (s.withInput xs).take b = (s.take b).withInput xs := rfl
  rw [htake, detect_withInput, hu, onNext_next, andThen_next, detect_withInput, hv, onNext_next,
    andThen_next, detect_withInput, ht, onNext_next]

/-- One step does the same whatever stands behind the transaction it takes (R38). -/
theorem step_uniform_in_rest (s : State) (x : Transaction) :
    ∃ t : State, ∀ rest, step (s.withInput (x :: rest)) = .next (t.withInput rest) := by
  cases hr : x.rst with
  | true => exact ⟨s.cleared, fun rest => step_of_rst rfl hr⟩
  | false =>
    cases hv : x.inValid with
    | true =>
      obtain ⟨t, ht, -⟩ := ingest_ingested s x.inByte
      exact ⟨t, fun rest => (step_of_inValid rfl hr hv).trans (execIngest_withInput _ ht rest)⟩
    | false => exact ⟨s.quiet, fun rest => step_of_idle rfl hr hv⟩

/-- A run as long as a first part of the input leaves the rest as it is. -/
theorem runSteps_length_append (xs ys : List Transaction) (s : State) :
    runSteps xs.length (s.withInput (xs ++ ys)) =
      (runSteps xs.length (s.withInput xs)).withInput ys := by
  induction xs generalizing s with
  | nil => rfl
  | cons x xs ih =>
    obtain ⟨t, ht⟩ := step_uniform_in_rest s x
    rw [List.length_cons, List.cons_append, runSteps_succ_of_next (ht _),
      runSteps_succ_of_next (ht _), ih]

/-- A run of `m + n` steps is a run of `n` steps after one of `m`. -/
theorem runSteps_add (m n : Nat) (s : State) :
    runSteps (m + n) s = runSteps n (runSteps m s) := by
  induction m generalizing s with
  | zero => rw [Nat.zero_add, runSteps]
  | succ m ih =>
    obtain ⟨t, ht, -⟩ := step_completes_and_drops_one s
    rw [Nat.succ_add, runSteps_succ_of_next ht, runSteps_succ_of_next ht, ih]

/-- Settles O42: a chunk is its transactions, and the first chunk's steps leave the second chunk
offered. -/
theorem chunkBoundariesAreInvisible : Obligations.ChunkBoundariesAreInvisible := by
  intro s xs ys
  have hsplit := runSteps_length_append (offers xs) (offers ys) s
  simp only [offers, List.length_map] at hsplit
  rw [runSteps_add, offers, List.map_append, hsplit]
  rfl

/-! ### The ports do not matter -/

/-- A step begins by clearing the ports, so it does not read them (R27). -/
theorem step_quiet (s : State) : step s.quiet = step s := by
  cases hinput : s.input with
  | nil => rw [step_of_input_nil hinput, step_of_input_nil (s := s.quiet) hinput]; rfl
  | cons x rest =>
    cases hr : x.rst with
    | true => rw [step_of_rst hinput hr, step_of_rst (s := s.quiet) hinput hr]; rfl
    | false =>
      cases hv : x.inValid with
      | true => rw [step_of_inValid hinput hr hv, step_of_inValid (s := s.quiet) hinput hr hv]; rfl
      | false => rw [step_of_idle hinput hr hv, step_of_idle (s := s.quiet) hinput hr hv]; rfl

/-- Two states that differ in their ports at most run to such states. -/
theorem runSteps_quiet (n : Nat) (s : State) :
    (runSteps n s.quiet).quiet = (runSteps n s).quiet := by
  cases n with
  | zero => rfl
  | succ n =>
    obtain ⟨t, ht, -⟩ := step_completes_and_drops_one s
    rw [runSteps_succ_of_next ht, runSteps_succ_of_next ((step_quiet s).trans ht)]

/-- What such states have in common. -/
theorem eq_of_quiet_eq {s t : State} (h : s.quiet = t.quiet) :
    (∀ l, s.window l = t.window l) ∧ s.trace = t.trace ∧ s.pos = t.pos := by
  refine ⟨fun l => ?_, ?_, ?_⟩
  · rw [← s.quiet_window, h, t.quiet_window]
  · rw [← s.quiet_trace, h, t.quiet_trace]
  · rw [← s.quiet_pos, h, t.quiet_pos]

/-- Waiting with nothing offered changes nothing but the ports (R43). -/
theorem runSteps_of_input_nil {s : State} (h : s.input = []) (n : Nat) :
    (runSteps n s).quiet = s.quiet := by
  induction n with
  | zero => rfl
  | succ n ih => rw [runSteps_succ_of_next (step_of_input_nil h), runSteps_quiet, ih]

/-- The transaction resets the block or offers a byte (R27). -/
def isBusy (x : Transaction) : Bool := x.rst || x.inValid

/-- Leaving out the transactions that offer nothing changes nothing but the ports, by induction on
the transactions: an idle one clears the ports, any other one is taken in both runs. -/
theorem runSteps_filter_busy (xs : List Transaction) (s : State) :
    (runSteps xs.length (s.withInput xs)).quiet =
      (runSteps (xs.filter isBusy).length (s.withInput (xs.filter isBusy))).quiet := by
  induction xs generalizing s with
  | nil => rfl
  | cons x xs ih =>
    cases hbusy : isBusy x with
    | true =>
      obtain ⟨t, ht⟩ := step_uniform_in_rest s x
      rw [List.filter_cons_of_pos hbusy, List.length_cons, List.length_cons,
        runSteps_succ_of_next (ht _), runSteps_succ_of_next (ht _), ih]
    | false =>
      obtain ⟨hr, hv⟩ := Bool.or_eq_false_iff.mp hbusy
      have hidle : step (s.withInput (x :: xs)) = .next (s.quiet.withInput xs) :=
        step_of_idle rfl hr hv
      rw [List.filter_cons_of_neg (by simp [hbusy]), List.length_cons,
        runSteps_succ_of_next hidle, ih s.quiet]
      exact runSteps_quiet _ (s.withInput (xs.filter isBusy))

/-- Settles O43: waiting touches the ports only, and the next step does not read them. -/
theorem waitingIsInvisible : Obligations.WaitingIsInvisible := by
  refine ⟨fun n s x hinput => ?_, fun s xs => ?_⟩
  · have hwait : (runSteps n s).quiet.withInput [x] = s.quiet.withInput [x] := by
      rw [runSteps_of_input_nil hinput n]
    calc step ((runSteps n s).withInput [x])
        = step ((runSteps n s).withInput [x]).quiet := (step_quiet _).symm
      _ = step (s.withInput [x]).quiet := congrArg step hwait
      _ = step (s.withInput [x]) := step_quiet _
  · exact eq_of_quiet_eq (runSteps_filter_busy xs s)

/-! ### The count of bytes -/

/-- The count of bytes after a step, by the transaction that it takes (R21, R73). -/
def posAfter (pos : Nat) : Option Transaction → Nat
  | none => pos
  | some x => if x.rst then 0 else if x.inValid then pos + 1 else pos

theorem step_pos {s t : State} (h : step s = .next t) : t.pos = posAfter s.pos s.input.head? := by
  cases hinput : s.input with
  | nil =>
    obtain rfl := Host.Outcome.next.inj ((step_of_input_nil hinput).symm.trans h)
    rfl
  | cons x rest =>
    cases hr : x.rst with
    | true =>
      obtain rfl := Host.Outcome.next.inj ((step_of_rst hinput hr).symm.trans h)
      simp [posAfter, hr]
    | false =>
      cases hv : x.inValid with
      | true =>
        obtain ⟨t', ht', hi⟩ := ingest_ingested { s with input := rest } x.inByte
        obtain rfl := Host.Outcome.next.inj
          (((step_of_inValid hinput hr hv).trans ht').symm.trans h)
        simp [posAfter, hr, hv, hi.pos]
      | false =>
        obtain rfl := Host.Outcome.next.inj ((step_of_idle hinput hr hv).symm.trans h)
        simp [posAfter, hr, hv]

/-- The count is a matter of the input alone. -/
theorem runSteps_pos_congr (n : Nat) {s t : State} (hinput : s.input = t.input)
    (hpos : s.pos = t.pos) : (runSteps n s).pos = (runSteps n t).pos := by
  induction n generalizing s t with
  | zero => exact hpos
  | succ n ih =>
    obtain ⟨s', hs, hsinput⟩ := step_completes_and_drops_one s
    obtain ⟨t', ht, htinput⟩ := step_completes_and_drops_one t
    rw [runSteps_succ_of_next hs, runSteps_succ_of_next ht]
    exact ih (by rw [hsinput, htinput, hinput]) (by rw [step_pos hs, step_pos ht, hinput, hpos])

/-- Settles O41: the reset leaves two machines that agree on every lane and on the count, and
agreement lasts. -/
theorem resetForgetsThePast : Obligations.ResetForgetsThePast := by
  intro n s t x rest hr hcfg hs ht hn
  obtain ⟨n, rfl⟩ := Nat.exists_eq_add_one.mpr hn
  rw [runSteps_succ_of_next ((step_of_rst hs hr).trans (exec_reset_eq ..)),
    runSteps_succ_of_next ((step_of_rst ht hr).trans (exec_reset_eq ..))]
  have hagree (l : Lane) : LaneAgree l (State.withInput s rest).cleared
      (State.withInput t rest).cleared :=
    ⟨⟨hcfg, rfl, by simp⟩, by simp⟩
  exact ⟨fun l => ⟨((hagree l).runSteps n).window, ((hagree l).runSteps n).port⟩,
    runSteps_pos_congr n rfl rfl⟩

end Sys2Proof.Machine
end

section
/-! Frames in the stream (R90, R91, R92; log 14): what a lane's window is after a run of offered
bytes, and what the lane makes of the last one. -/

namespace Sys2Proof.Machine

/-! ### A stream of offered bytes -/

/-- The step that takes an offered byte is its INGEST. -/
theorem step_offer {s : State} {b : Byte} {rest : List Transaction}
    (h : s.input = offer b :: rest) :
    ∃ t, step s = .next t ∧ Ingested (s.withInput rest) b t := by
  rw [step_of_inValid h rfl rfl]
  exact ingest_ingested _ b

/-- While a lane does not succeed, its window takes byte after byte; lane B's does so in any case. -/
theorem window_runSteps_offers {l : Lane} {bs : List Byte} {rest : List Transaction} {s : State}
    (hinput : s.input = offers bs ++ rest)
    (hno : l ≠ .B → ∀ k, 1 ≤ k → k ≤ bs.length → ¬ (runSteps k s).succeeded l) :
    (runSteps bs.length s).window l = bs.foldl (pushLane l) (s.window l) ∧
      (runSteps bs.length s).input = rest ∧ (runSteps bs.length s).cfg = s.cfg := by
  induction bs generalizing s with
  | nil => exact ⟨rfl, hinput, rfl⟩
  | cons b bs ih =>
    obtain ⟨t, ht, hi⟩ := step_offer hinput
    have hrun (k : Nat) : runSteps (k + 1) s = runSteps k t := runSteps_succ_of_next ht k
    have hwin : t.window l = pushLane l (s.window l) b := by
      rw [← State.withInput_window s (offers bs ++ rest) l]
      obtain ⟨hsucc, hwin⟩ | ⟨-, hwin⟩ := hi.succeeded_or_kept l
      · by_cases hl : l = .B
        · rwa [if_pos hl] at hwin
        · exact absurd (hrun 0 ▸ hsucc) (hno hl 1 (by omega) (by simp))
      · exact hwin
    obtain ⟨hfold, hrest, hcfg⟩ := ih hi.input fun hl k hk hle => by
      rw [← hrun k]
      exact hno hl (k + 1) (by omega) (by simp only [List.length_cons]; omega)
    rw [List.length_cons, hrun, List.foldl_cons, ← hwin]
    exact ⟨hfold, hrest, hcfg.trans hi.cfg⟩

/-- If the bytes `f` leave themselves in the lane's window and the lane decodes them, the lane detects
the frame `f` at its last byte. -/
theorem detected_at_last_byte {l : Lane} {f : List Byte} {i : Instr} {rest : List Transaction}
    {s : State} (hinput : s.input = offers f ++ rest) (hne : f ≠ [])
    (hno : l ≠ .B → ∀ k, 1 ≤ k → k ≤ f.length - 1 → ¬ (runSteps k s).succeeded l)
    (hwin : f.foldl (pushLane l) (s.window l) = f) (hdec : decodeWindow l s.cfg f = .ok i) :
    ∃ e, (runSteps f.length s).port l = some e ∧ e.kind ≠ .mismatch ∧ e.raw = f := by
  obtain ⟨bs, b, rfl⟩ := List.eq_nil_or_concat f |>.resolve_left hne
  simp only [List.concat_eq_append] at *
  have hlen : (bs ++ [b]).length = bs.length + 1 := by simp
  have hinput' : s.input = offers bs ++ offer b :: rest := by
    rw [hinput, offers, List.map_append, List.append_assoc]; rfl
  obtain ⟨hbs, hrest, hcfg⟩ := window_runSteps_offers (l := l) hinput' (by
    rw [hlen] at hno; exact hno)
  obtain ⟨t, ht, hi⟩ := step_offer hrest
  have ho := hi.outcome l
  rw [List.foldl_append, ← hbs] at hwin
  rw [State.withInput_window, show pushLane l _ b = bs ++ [b] from hwin] at ho
  have hcfg' : decodeWindow l (runSteps bs.length s).cfg (bs ++ [b]) = .ok i := by rw [hcfg, hdec]
  rw [hcfg'] at ho
  obtain ⟨-, e, hport, -, hk, hraw⟩ := ho
  rw [hlen, runSteps_add, runSteps_succ_of_next ht]
  exact ⟨e, hport, hk, hraw⟩

/-! ### Pelco frames -/

theorem pushLane_pelco {l : Lane} (hl : l ≠ .B) : pushLane l = pushWindow (laneCap l) := by
  cases l with
  | D | P => rfl
  | B => exact absurd rfl hl

theorem laneCap_pos (l : Lane) : 0 < laneCap l := by cases l <;> decide

/-- As many bytes as fit push everything else out of a Pelco window. -/
theorem foldl_pushLane_full {l : Lane} (hl : l ≠ .B) {w f : List Byte} (hw : w.length ≤ laneCap l)
    (hf : f.length = laneCap l) : f.foldl (pushLane l) w = f := by
  rw [pushLane_pelco hl, windowHoldsTheLatestBytes (laneCap l) w f (laneCap_pos l) hw,
    List.length_append, hf, Nat.add_sub_cancel, List.drop_left]

/-- A Pelco lane that succeeded in a step has an empty window after it (R86). -/
theorem window_nil_of_succeeded {l : Lane} (hl : l ≠ .B) {s t : State} (h : step s = .next t)
    (hs : t.succeeded l) : t.window l = [] := by
  obtain ⟨rest, rfl | rfl | ⟨b, hi⟩⟩ := step_inv h
  · obtain ⟨e, he, -⟩ := hs
    simp at he
  · simp
  · obtain ⟨-, hwin⟩ | ⟨hno, -⟩ := hi.succeeded_or_kept l
    · rwa [if_neg hl] at hwin
    · exact absurd hs hno

/-- The same after any number of steps but none. -/
theorem runSteps_window_nil_of_succeeded {l : Lane} (hl : l ≠ .B) {s : State} {k : Nat}
    (hk : 1 ≤ k) (hs : (runSteps k s).succeeded l) : (runSteps k s).window l = [] := by
  obtain ⟨k, rfl⟩ := Nat.exists_eq_add_of_le' hk
  obtain ⟨t, ht, -⟩ := step_completes_and_drops_one (runSteps k s)
  have hrun : runSteps (k + 1) s = t := by rw [runSteps_add, runSteps_succ_of_next ht]; rfl
  rw [hrun] at hs ⊢
  exact window_nil_of_succeeded hl ht hs

/-- A candidate frame is no longer than the run since the lane last succeeded (R86). -/
theorem raw_length_le_of_succeeded {l : Lane} (hl : l ≠ .B) {s : State} {k n : Nat} (hk : 1 ≤ k)
    (hn : 1 ≤ n) (hs : (runSteps k s).succeeded l) {e : Event}
    (he : (runSteps (k + n) s).port l = some e) : e.raw.length ≤ n := by
  rw [runSteps_add] at he
  obtain ⟨-, hcandidate⟩ := laneMadeOf_runSteps_of_window_nil l (runSteps k s) n
    (runSteps_window_nil_of_succeeded hl hk hs)
  calc e.raw.length
      ≤ (takenBytes ((runSteps k s).input.take n)).length := (hcandidate hn e he).length_le
    _ ≤ ((runSteps k s).input.take n).length := List.length_filterMap_le _ _
    _ ≤ n := List.length_take_le _ _

/-- R91 on either Pelco lane: a success among the frame's earlier bytes leaves too few of them in the
window, and without one the frame fills it. -/
theorem pelco_frame_detection {l : Lane} (hl : l ≠ .B) {s : State} {f : List Byte} {i : Instr}
    {rest : List Transaction} (hwf : s.wf = true) (hlen : f.length = laneCap l)
    (hdec : decodeWindow l s.cfg f = .ok i) (hinput : s.input = offers f ++ rest) :
    (∃ e, (runSteps (laneCap l) s).port l = some e ∧ e.kind ≠ .mismatch ∧ e.raw = f) ↔
      ∀ k, 1 ≤ k → k ≤ laneCap l - 1 → ¬ (runSteps k s).succeeded l := by
  have hpos := laneCap_pos l
  constructor
  · rintro ⟨e, he, -, hraw⟩ k hk hle hs
    obtain ⟨n, hn⟩ := Nat.exists_eq_add_of_le (show k ≤ laneCap l by omega)
    rw [hn] at he
    have hshort := raw_length_le_of_succeeded hl hk (by omega) hs he
    rw [hraw, hlen] at hshort
    omega
  · intro hno
    rw [← hlen] at hno ⊢
    exact detected_at_last_byte hinput (List.ne_nil_of_length_pos (by omega)) (fun _ => hno)
      (foldl_pushLane_full hl ((s.wf_iff.mp hwf).left l) hlen) hdec

/-- Settles O44. -/
theorem pelcoDFrameDetection : Obligations.PelcoDFrameDetection := by
  intro s f i rest hwf hdec hinput
  obtain ⟨hlen, -⟩ := (decodeD_evaluates_iff s.cfg f).mp (.inl (by rw [hdec]; rfl))
  exact pelco_frame_detection (l := .D) (by decide) hwf hlen hdec hinput

/-- Settles O45. -/
theorem pelcoPFrameDetection : Obligations.PelcoPFrameDetection := by
  intro s f i rest hwf hdec hinput
  obtain ⟨hlen, -⟩ := (decodeP_evaluates_iff s.cfg f).mp (.inl (by rw [hdec]; rfl))
  exact pelco_frame_detection (l := .P) (by decide) hwf hlen hdec hinput

/-! ### Bosch frames -/

/-- Settles O46: the frame's header empties lane B's window of all that came before. -/
theorem boschFrameIsAlwaysDetected : Obligations.BoschFrameIsAlwaysDetected := by
  intro s f i rest hdec htail hinput
  obtain ⟨header, tail, _, rfl, h7, hlen, -, -⟩ := decodeB_ok _ _ _ hdec
  have hlt := declaredLen_lt header
  have hwin : (header :: tail).foldl pushWindowB s.winB = header :: tail :=
    boschWindowBeginsAtTheLatestHeader s.winB [] tail header ((low7_eq_false_iff header).mpr h7)
      htail (by omega)
  exact detected_at_last_byte (l := .B) hinput (by simp) (fun hB => absurd rfl hB) hwin hdec

/-- Lane B's window has no header, or already all the bytes that its header declares (R90). -/
def HeaderSpent (w : List Byte) : Prop :=
  low7 (w.getD 0 0) = false → (w.getD 0 0).toNat % 128 + 1 ≤ w.length

/-- After a byte with bit 7 clear a spent header has more bytes behind it than it declares: the byte is
added to them, or pushes the header out of the window. -/
theorem pushWindowB_beyond_declared {w : List Byte} {b : Byte} (hcap : w.length ≤ 128)
    (htail : tailLow w = true) (hw : HeaderSpent w) (hb : low7 b = true)
    (hheader : low7 ((pushWindowB w b).getD 0 0) = false) :
    ((pushWindowB w b).getD 0 0).toNat % 128 + 1 < (pushWindowB w b).length := by
  rw [pushWindowB_low w b ((low7_eq_true_iff b).mp hb)] at hheader ⊢
  match w with
  | [] =>
    have hhead : (pushWindow Config.capB [] b).getD 0 0 = b := rfl
    rw [hhead, hb] at hheader
    cases hheader
  | x :: xs =>
    by_cases hroom : (x :: xs).length < Config.capB
    · rw [pushWindow_of_lt b hroom] at hheader ⊢
      have hspent := hw hheader
      simp only [List.getD_cons_zero, List.length_append, List.length_cons, List.cons_append,
        List.length_nil] at hspent ⊢
      omega
    · have hpush : pushWindow Config.capB (x :: xs) b = xs ++ [b] := if_neg hroom
      have hlow : allLow7 (xs ++ [b]) = true := by
        have hxs : allLow7 xs = true := htail
        simp [hxs, hb]
      rw [hpush] at hheader
      cases hys : xs ++ [b] with
      | nil => simp at hys
      | cons y ys =>
        rw [hys] at hheader hlow
        simp only [allLow7_cons, Bool.and_eq_true] at hlow
        rw [List.getD_cons_zero, hlow.left] at hheader
        cases hheader

/-- A window with more bytes than its header declares, or with no header, is not evaluated (R89). -/
theorem not_evaluated_of_beyond_declared {cfg : Config} {w : List Byte}
    (h : low7 (w.getD 0 0) = false → (w.getD 0 0).toNat % 128 + 1 < w.length) :
    ¬ (matchFlag (decodeB cfg w) = true ∨ mismatchFlag (decodeB cfg w) = true) := by
  rw [decodeB_evaluates_iff]
  rintro ⟨-, hheader, hlen⟩
  have hbeyond := h (by rwa [low7_eq_false_iff, bit7_eq_true_iff])
  omega

/-- A lane that evaluates no checksum is silent. -/
theorem Ingested.silent {l : Lane} {s t : State} {b : Byte} (h : Ingested s b t)
    (hno : ¬ (matchFlag (decodeWindow l s.cfg (pushLane l (s.window l) b)) = true ∨
      mismatchFlag (decodeWindow l s.cfg (pushLane l (s.window l) b)) = true)) : t.port l = none := by
  have ho := h.outcome l
  unfold laneOutcome at ho
  split at ho
  · next hr => exact absurd (.inl (by rw [hr]; rfl)) hno
  · next hr => exact absurd (.inr (by rw [hr]; rfl)) hno
  · exact ho.right

/-- Settles O47, by induction on the bytes: each keeps the header spent, and a spent header is not
evaluated. -/
theorem boschHeaderIsEvaluatedOnce : Obligations.BoschHeaderIsEvaluatedOnce := by
  intro s bs
  induction bs generalizing s with
  | nil => exact fun _ _ _ _ _ k hk hle => absurd (hk.trans hle) (by decide)
  | cons b bs ih =>
    intro rest hwf hspent hlow hinput k hk hle
    simp only [allLow7_cons, Bool.and_eq_true] at hlow
    obtain ⟨hb, hbs⟩ := hlow
    obtain ⟨t, ht, hi⟩ := step_offer hinput
    obtain ⟨hcap, htail⟩ := s.wf_iff.mp hwf
    have hbeyond := pushWindowB_beyond_declared (hcap .B) htail hspent hb
    obtain ⟨k, rfl⟩ := Nat.exists_eq_add_of_le' hk
    rw [runSteps_succ_of_next ht]
    cases k with
    | zero => exact hi.silent (l := .B) (not_evaluated_of_beyond_declared hbeyond)
    | succ k =>
      refine ih t rest (stepKeepsTheWindowForm s t hwf ht) ?_ hbs hi.input (k + 1) (by omega)
        (by simpa using hle)
      rw [State.fillB, hi.winB]
      exact fun hheader => (hbeyond hheader).le

/-! ### Placed instructions -/

theorem State.place_bosch (s : State) (bs : List Byte) (b : Byte) :
    s.place .bosch (bs ++ [b]) = { s with winB := bs, input := offer b :: s.input } := by
  simp [State.place]

/-- The step that takes a frame's last byte presents on the frame's lane what exec of the decoded
command presents in any state `v` that agrees with the one after the byte (R77, R80, R83). -/
theorem step_presents_exec {l : Lane} {s v : State} {b : Byte} {rest : List Transaction} {i : Instr}
    (hinput : s.input = offer b :: rest) (hv : LaneAgree l ((s.withInput rest).take b) v)
    (hdec : v.decodeLane l = .ok i) :
    ∃ t u e, step s = .next t ∧ exec i v = .next u ∧ u.port l = some e ∧ t.port l = some e ∧
      e.kind ≠ .mismatch := by
  obtain ⟨t, ht, hi⟩ := step_offer hinput
  obtain ⟨u, e, hd, hu, ⟨-, -, hport, -⟩, hk⟩ := detect_decoded_accepts hdec
  obtain ⟨x, hx, hxt⟩ := hi.lane l
  obtain ⟨y, hy, hyu⟩ := hv.after_own hd
  obtain rfl := Host.Outcome.next.inj (hx.symm.trans hy)
  exact ⟨t, u, e, ht, hu, hport, by rw [← hxt.port, hyu.port, hport], hk⟩

/-- Settles O17: a placed transaction is fetched, and a placed frame's last byte completes it. -/
theorem placedInstructionRunsNext : Obligations.PlacedInstructionRunsNext := by
  refine ⟨fun i hf => ?_, fun i hwf hf => ?_, fun i hwf hf => ?_, fun i hwf hf => ?_⟩
  · cases i with
    | ingest b => rfl
    | reset v b => cases v <;> rfl
    | _ => cases hf
  · have hdec := decodeD_encode hwf hf
    obtain ⟨a, c1, c2, d1, d2, henc⟩ := encode_pelcoD hf
    rw [henc] at hdec ⊢
    exact step_presents_exec (l := .D) rfl ⟨⟨rfl, rfl, rfl⟩, rfl⟩ hdec
  · have hdec := decodeP_encode hwf hf
    obtain ⟨a, c1, c2, d1, d2, henc⟩ := encode_pelcoP hf
    rw [henc] at hdec ⊢
    exact step_presents_exec (l := .P) rfl ⟨⟨rfl, rfl, rfl⟩, rfl⟩ hdec
  · have hdec := decodeB_encode hwf hf
    obtain ⟨p, hp⟩ := exists_boschPayload hwf hf
    have hlen := hp.length_le
    rw [hp.encode_eq] at hdec ⊢
    have hplace : State.reset.place .bosch (encodeB p) = { State.reset with
        winB := headerOf (p.length + 1) :: p
        input := [offer (cksumB (headerOf (p.length + 1) :: p))] } := State.place_bosch _ _ _
    have hpush : pushWindowB (headerOf (p.length + 1) :: p)
        (cksumB (headerOf (p.length + 1) :: p)) = encodeB p :=
      foldl_pushWindowB_low (lows := [cksumB (headerOf (p.length + 1) :: p)]) (by simp [cksumB_low])
        (by simp; omega)
    rw [hplace]
    exact step_presents_exec (l := .B) rfl ⟨⟨rfl, rfl, hpush⟩, rfl⟩ hdec

end Sys2Proof.Machine
end

section
/-! The events of the instructions (R100 to R141): each frame command is one `accept` of its lane, with
the kind and the camera id of its rule. -/

namespace Sys2Proof.Machine

/-! ### Camera ids -/

theorem cameraD_toNat (a : Byte) : (cameraD a).toNat = a.toNat := by
  rw [cameraD, BitVec.toNat_ofNat]
  exact Nat.mod_eq_of_lt (by omega)

theorem cameraP_toNat (a : Byte) : (cameraP a).toNat = a.toNat + 1 := by
  rw [cameraP, BitVec.toNat_ofNat]
  exact Nat.mod_eq_of_lt (by omega)

/-- A byte with bit 7 clear is below 128. -/
theorem toNat_lt_of_low7 {b : Byte} (h : low7 b = true) : b.toNat < 128 := by
  rw [low7_eq_true_iff] at h
  have hnot := mt (bit7_eq_true_iff b).mpr (by simp [h])
  omega

/-- The two 7-bit address bytes side by side are the high one times 128 plus the low one (R125). -/
theorem shiftLeft_or_of_low7 {hi lo : Byte} (hlo : low7 lo = true) :
    hi.toNat <<< 7 ||| lo.toNat = hi.toNat * 128 + lo.toNat := by
  rw [Nat.shiftLeft_eq, Nat.mul_comm]
  exact (Nat.two_pow_add_eq_or_of_lt (i := 7) (toNat_lt_of_low7 hlo) hi.toNat).symm.trans (by omega)

theorem cameraB_toNat {hi lo : Byte} (hhi : low7 hi = true) (hlo : low7 lo = true) :
    (cameraB hi lo).toNat = hi.toNat * 128 + lo.toNat + 1 := by
  have h1 := toNat_lt_of_low7 hhi
  have h2 := toNat_lt_of_low7 hlo
  rw [cameraB, shiftLeft_or_of_low7 hlo, BitVec.toNat_ofNat]
  exact Nat.mod_eq_of_lt (by omega)

/-! ### Pelco commands -/

section
variable {s : State} {i : Instr} {k : Kind} {a : Byte}

/-- A command that is lane D's `accept` with the camera of an address completes with that event. -/
theorem acceptD_event (h : exec i s = .next (s.acceptD k (cameraD a))) :
    ∃ t e, exec i s = .next t ∧ accepts .D s t e ∧ e.kind = k ∧
      e.camera.map BitVec.toNat = some a.toNat :=
  ⟨_, _, h, accepts_acceptD s k _, rfl, congrArg some (cameraD_toNat a)⟩

/-- The same on lane P. -/
theorem acceptP_event (h : exec i s = .next (s.acceptP k (cameraP a))) :
    ∃ t e, exec i s = .next t ∧ accepts .P s t e ∧ e.kind = k ∧
      e.camera.map BitVec.toNat = some (a.toNat + 1) :=
  ⟨_, _, h, accepts_acceptP s k _, rfl, congrArg some (cameraP_toNat a)⟩

end

/-- Settles O1. -/
theorem pelcoDStandardCommandEvent : Obligations.PelcoDStandardCommandEvent :=
  fun _ _ _ _ _ _ => acceptD_event rfl

/-- Settles O2. -/
theorem pelcoPStandardCommandEvent : Obligations.PelcoPStandardCommandEvent :=
  fun _ _ _ _ _ _ => acceptP_event rfl

theorem exec_extInstrD (s : State) (a d2 : Byte) (act : ExtAct) :
    exec (extInstrD a d2 act) s = .next (s.acceptD (.pelcoExt act d2) (cameraD a)) := by
  cases act <;> rfl

theorem exec_extInstrP (s : State) (a d2 : Byte) (act : ExtAct) :
    exec (extInstrP a d2 act) s = .next (s.acceptP (.pelcoExt act d2) (cameraP a)) := by
  cases act <;> rfl

/-- The nine extended actions, in the order of their codes. -/
abbrev extActs : List ExtAct := [.setPreset, .clearPreset, .gotoPreset, .setAux, .clearAux,
  .startRecordingTour, .stopRecordingTour, .startTour, .setZoomSpeed]

/-- Settles O3: the list pairs each action with its command. -/
theorem pelcoDExtendedActionEvents : Obligations.PelcoDExtendedActionEvents := by
  intro s a n i act hmem
  obtain ⟨act', -, hpair⟩ := List.mem_map.mp
    (show (i, act) ∈ extActs.map fun act => (extInstrD a n act, act) from hmem)
  obtain ⟨rfl, rfl⟩ := Prod.mk.inj hpair
  exact acceptD_event (exec_extInstrD s a n act')

/-- Settles O4: the list pairs each action with its command. -/
theorem pelcoPExtendedActionEvents : Obligations.PelcoPExtendedActionEvents := by
  intro s a n i act hmem
  obtain ⟨act', -, hpair⟩ := List.mem_map.mp
    (show (i, act) ∈ extActs.map fun act => (extInstrP a n act, act) from hmem)
  obtain ⟨rfl, rfl⟩ := Prod.mk.inj hpair
  exact acceptP_event (exec_extInstrP s a n act')

/-- Settles O5. -/
theorem unknownExtendedCommandEvents : Obligations.UnknownExtendedCommandEvents :=
  fun _ _ _ _ _ _ => ⟨acceptD_event rfl, acceptP_event rfl⟩

/-! ### Bosch commands -/

/-- A command that is lane B's `accept` with the camera of two 7-bit address bytes completes with that
event. -/
theorem acceptB_event {s : State} {i : Instr} {k : Kind} {hi lo : Byte} (hhi : low7 hi = true)
    (hlo : low7 lo = true) (h : exec i s = .next (s.acceptB k (some (cameraB hi lo)))) :
    ∃ t e, exec i s = .next t ∧ accepts .B s t e ∧ e.kind = k ∧
      e.camera.map BitVec.toNat = some (hi.toNat * 128 + lo.toNat + 1) :=
  ⟨_, _, h, accepts_acceptB s k _, rfl, congrArg some (cameraB_toNat hhi hlo)⟩

theorem exec_auxInstr (s : State) (hi lo d1 : Byte) (rest : List Byte) (fn : AuxFn) :
    exec (auxInstr hi lo d1 rest fn) s =
      .next (s.acceptB (.boschAux fn) (some (cameraB hi lo))) := by
  cases fn <;> rfl

/-- The seven named functions, in the order of their codes. -/
abbrev auxFns : List AuxFn := [.auxOn, .auxOff, .presetSet, .presetShot, .cancelLatchingAux,
  .latchingAuxOn, .latchingAuxOff]

/-- Settles O6: the list pairs each function with its command. -/
theorem boschAuxFunctionEvents : Obligations.BoschAuxFunctionEvents := by
  intro s hi lo d1 rest i fn hhi hlo hmem
  obtain ⟨fn', -, hpair⟩ := List.mem_map.mp
    (show (i, fn) ∈ auxFns.map fun fn => (auxInstr hi lo d1 rest fn, fn) from hmem)
  obtain ⟨rfl, rfl⟩ := Prod.mk.inj hpair
  exact acceptB_event hhi hlo (exec_auxInstr s hi lo d1 rest fn')

/-- The function code is four bits of the first data byte (R57). -/
theorem auxFnCode_toNat (sel : Fin 4) (d1 : Byte) :
    (auxFnCode sel d1).toNat = d1.toNat / 2 ^ sel.val % 16 := by
  rw [auxFnCode, BitVec.extractLsb'_toNat, Nat.shiftRight_eq_div_pow]

/-- Settles O7. -/
theorem boschUnknownFunctionEvent : Obligations.BoschUnknownFunctionEvent := by
  intro s hi lo d1 rest hhi hlo
  obtain ⟨t, e, ht, haccepts, hk, hcam⟩ :=
    acceptB_event (s := s) (i := .boschAuxUnknownFn hi lo d1 rest) hhi hlo rfl
  exact ⟨t, e, _, ht, haccepts, hk, auxFnCode_toNat s.cfg.auxFnSel d1, hcam⟩

theorem u7_setWidth (d : BitVec 7) : u7 (d.setWidth 8) = d := by
  apply BitVec.eq_of_toNat_eq
  simp only [u7, BitVec.toNat_setWidth]
  omega

/-- Settles O8: the 7-bit value of a 7-bit byte is that value. -/
theorem boschVariableSpeedEvent : Obligations.BoschVariableSpeedEvent := by
  intro s hi lo d1 d2 d3 rest hhi hlo
  have hkind : varSpeedKind (d1.setWidth 8) (d2.setWidth 8) (d3.setWidth 8) =
      .boschVarSpeed (Config.boschVsDecode d1 d2 d3) := by
    rw [varSpeedKind, u7_setWidth, u7_setWidth, u7_setWidth]
  exact acceptB_event hhi hlo (hkind ▸ rfl)

theorem u7_toNat {b : Byte} (h : low7 b = true) : (u7 b).toNat = b.toNat := by
  rw [u7, BitVec.toNat_setWidth]
  exact Nat.mod_eq_of_lt (toNat_lt_of_low7 h)

/-- Settles O9. -/
theorem boschOpCodeEvents : Obligations.BoschOpCodeEvents := by
  intro s hi lo op data hhi hlo hop
  obtain ⟨t, e, ht, haccepts, hk, hcam⟩ :=
    acceptB_event (s := s) (i := .boschOp hi lo op data) hhi hlo rfl
  obtain ⟨t', e', ht', haccepts', hk', hcam'⟩ :=
    acceptB_event (s := s) (i := .boschUnknownOp hi lo op data) hhi hlo rfl
  exact ⟨⟨t, e, _, ht, haccepts, hk, u7_toNat hop, hcam⟩,
    ⟨t', e', _, ht', haccepts', hk', u7_toNat hop, hcam'⟩⟩

/-- Settles O10. -/
theorem boschShortEvent : Obligations.BoschShortEvent := fun s _ =>
  ⟨_, _, rfl, accepts_acceptB s .boschShort none, rfl, rfl⟩

/-! ### Standard commands: the bits outside the map -/

/-- Bytes that agree under a mask agree in each of the mask's bits. -/
theorem getLsbD_of_and_eq {b b' mask : Byte} (h : b &&& mask = b' &&& mask) {n : Nat}
    (hn : mask.getLsbD n = true) : b.getLsbD n = b'.getLsbD n := by
  simpa [hn] using congrArg (BitVec.getLsbD · n) h

section
variable {c1 c1' c2 c2' mask1 mask2 : Byte} (h1 : c1 &&& mask1 = c1' &&& mask1)
  (h2 : c2 &&& mask2 = c2' &&& mask2)
include h1 h2

/-- A flag whose place is in the masks does not depend on the other bits. -/
theorem flagAt_congr_of_masks {p : FlagPos} (hp : flagAt mask1 mask2 p = true) :
    flagAt c1 c2 p = flagAt c1' c2' p := by
  obtain ⟨byte, bit⟩ := p
  cases byte with
  | cmd1 => exact getLsbD_of_and_eq h1 hp
  | cmd2 => exact getLsbD_of_and_eq h2 hp

theorem axisState_congr_of_masks {a : AxisFlags}
    (ha : (flagAt mask1 mask2 a.positive && flagAt mask1 mask2 a.negative) = true) :
    axisState c1 c2 a = axisState c1' c2' a := by
  obtain ⟨hpos, hneg⟩ := (Bool.and_eq_true _ _).mp ha
  rw [axisState, axisState, flagAt_congr_of_masks h1 h2 hpos, flagAt_congr_of_masks h1 h2 hneg]

/-- A standard command's fields depend on the bits of its map alone (R52). -/
theorem stdKind_congr_of_masks {map : BitMap} (d1 d2 : Byte)
    (hmap : ([map.pan, map.tilt, map.zoom, map.iris, map.focus].all fun a =>
      flagAt mask1 mask2 a.positive && flagAt mask1 mask2 a.negative) = true) :
    stdKind map c1 c2 d1 d2 = stdKind map c1' c2' d1 d2 := by
  have haxis : ∀ a ∈ [map.pan, map.tilt, map.zoom, map.iris, map.focus],
      axisState c1 c2 a = axisState c1' c2' a := fun a ha =>
    axisState_congr_of_masks h1 h2 (List.all_eq_true.mp hmap a ha)
  simp only [List.forall_mem_cons] at haxis
  obtain ⟨hpan, htilt, hzoom, hiris, hfocus, -⟩ := haxis
  rw [stdKind, stdKind, hpan, htilt, hzoom, hiris, hfocus]

end

/-- Settles O52: the ten flags of each default map stand in the masks of the statement; Pelco D's cmd2
is mapped whole. -/
theorem unmappedBitsAreIgnored : Obligations.UnmappedBitsAreIgnored :=
  ⟨fun _ _ _ d1 d2 h => stdKind_congr_of_masks (mask2 := 0xFF) h rfl d1 d2 rfl,
    fun _ _ _ _ d1 d2 h1 h2 => stdKind_congr_of_masks h1 h2 d1 d2 rfl⟩

/-! ### What an accepted Pelco frame says -/

/-- The kind of an extended command, by what the table has for its triple (R102, R113, R123). -/
def extKind (cmd1 cmd2 data1 data2 : Byte) : Option ExtAct → Kind
  | some act => .pelcoExt act data2
  | none => .pelcoExtUnknown cmd1 cmd2 data1 data2

theorem exec_classifyD_extended (s : State) {lut : List ExtRow} {a c1 c2 d1 d2 : Byte}
    (h : c2[0] = true) : exec (classifyD lut a c1 c2 d1 d2) s =
      .next (s.acceptD (extKind c1 c2 d1 d2 (extLookup lut c1 c2 d1)) (cameraD a)) := by
  cases hact : extLookup lut c1 c2 d1 with
  | none => rw [classifyD_unknown h hact]; rfl
  | some act => rw [classifyD_action h hact, exec_extInstrD]; rfl

theorem exec_classifyP_extended (s : State) {lut : List ExtRow} {a c1 c2 d1 d2 : Byte}
    (h : c2[0] = true) : exec (classifyP lut a c1 c2 d1 d2) s =
      .next (s.acceptP (extKind c1 c2 d1 d2 (extLookup lut c1 c2 d1)) (cameraP a)) := by
  cases hact : extLookup lut c1 c2 d1 with
  | none => rw [classifyP_unknown h hact]; rfl
  | some act => rw [classifyP_action h hact, exec_extInstrP]; rfl

/-- Whatever a lane D frame says, its camera is its address (R95). -/
theorem exec_classifyD_camera (s : State) (lut : List ExtRow) (a c1 c2 d1 d2 : Byte) :
    ∃ k, exec (classifyD lut a c1 c2 d1 d2) s = .next (s.acceptD k (cameraD a)) := by
  cases h : c2[0] with
  | true => exact ⟨_, exec_classifyD_extended s h⟩
  | false => rw [classifyD_standard h]; exact ⟨_, rfl⟩

/-- Whatever a lane P frame says, its camera is its address plus 1 (R96). -/
theorem exec_classifyP_camera (s : State) (lut : List ExtRow) (a c1 c2 d1 d2 : Byte) :
    ∃ k, exec (classifyP lut a c1 c2 d1 d2) s = .next (s.acceptP k (cameraP a)) := by
  cases h : c2[0] with
  | true => exact ⟨_, exec_classifyP_extended s h⟩
  | false => rw [classifyP_standard h]; exact ⟨_, rfl⟩

/-- The table's answer to a triple: the action of a row that has it, or no row has it (R54). -/
theorem extKind_extLookup (lut : List ExtRow) (c1 c2 d1 d2 : Byte) :
    (∃ r ∈ lut, r.cmd1 = c1 ∧ r.cmd2 = c2 ∧ r.data1 = d1 ∧
      extKind c1 c2 d1 d2 (extLookup lut c1 c2 d1) = .pelcoExt r.action d2) ∨
    ((∀ r ∈ lut, ¬ (r.cmd1 = c1 ∧ r.cmd2 = c2 ∧ r.data1 = d1)) ∧
      extKind c1 c2 d1 d2 (extLookup lut c1 c2 d1) = .pelcoExtUnknown c1 c2 d1 d2) := by
  cases hact : extLookup lut c1 c2 d1 with
  | none => exact .inr ⟨extLookup_eq_none hact, rfl⟩
  | some act =>
    obtain ⟨r, hr, h1, h2, h3, rfl⟩ := extLookup_eq_some hact
    exact .inl ⟨r, hr, h1, h2, h3, rfl⟩

/-- Settles O49: the kind is the table's answer to the frame's triple. -/
theorem extendedTableMatchesExactly : Obligations.ExtendedTableMatchesExactly := by
  refine ⟨fun s i h hbit => ?_, fun s i h hbit => ?_⟩
  · obtain ⟨a, c1, c2, d1, d2, hw, rfl⟩ := decodeD_ok _ _ _ h
    rw [hw] at hbit ⊢
    exact ⟨_, _, exec_classifyD_extended s hbit, rfl, extKind_extLookup s.cfg.extLut c1 c2 d1 d2⟩
  · obtain ⟨a, c1, c2, d1, d2, hw, rfl⟩ := decodeP_ok _ _ _ h
    rw [hw] at hbit ⊢
    exact ⟨_, _, exec_classifyP_extended s hbit, rfl, extKind_extLookup s.cfg.extLut c1 c2 d1 d2⟩

/-! ### What an accepted Bosch frame says -/

/-- An accepted frame of at least five bytes has address bytes and an op-code (R124). -/
theorem decodeB_ok_op {cfg : Config} {w : List Byte} {i : Instr} (h : decodeB cfg w = .ok i)
    (hlen : 5 ≤ w.length) : ∃ header hi lo op data ck,
      w = header :: hi :: lo :: op :: (data ++ [ck]) ∧ i = classifyOp cfg.auxFnSel hi lo op data := by
  obtain ⟨payload, -, rfl, rfl⟩ := decodeB_ok_encodeB h
  rw [encodeB_length] at hlen
  match payload, hlen with
  | hi :: lo :: op :: data, _ => exact ⟨_, hi, lo, op, data, _, rfl, rfl⟩

/-- The event of an op-code 0x07 frame, by its function code (R56, R131, R139). -/
theorem exec_classifyAux (s : State) (hi lo d1 : Byte) (rest : List Byte) :
    (∃ fn, auxFnNumber fn = auxFnCode s.cfg.auxFnSel d1 ∧
      exec (classifyAux s.cfg.auxFnSel hi lo d1 rest) s =
        .next (s.acceptB (.boschAux fn) (some (cameraB hi lo)))) ∨
    (auxFnCode s.cfg.auxFnSel d1 ∈ unknownFnCodes ∧
      exec (classifyAux s.cfg.auxFnSel hi lo d1 rest) s = .next
        (s.acceptB (.boschAuxUnknownFn (auxFnCode s.cfg.auxFnSel d1)) (some (cameraB hi lo)))) := by
  obtain ⟨fn, hfn⟩ | hcode := auxFnNumber_or_unknown (auxFnCode s.cfg.auxFnSel d1)
  · exact .inl ⟨fn, hfn, by rw [classifyAux_named hfn, exec_auxInstr]⟩
  · exact .inr ⟨hcode, by rw [classifyAux_unknown hcode]; rfl⟩

/-- Whatever a lane B frame with an op-code says, its camera is that of its address bytes (R125). -/
theorem exec_classifyOp_camera (s : State) (hi lo op : Byte) (data : List Byte) :
    ∃ k, exec (classifyOp s.cfg.auxFnSel hi lo op data) s =
      .next (s.acceptB k (some (cameraB hi lo))) := by
  obtain ⟨d1, d2, d3, rest, -, -, h⟩ | ⟨d1, rest, -, -, h⟩ | ⟨-, -, -, h⟩ | ⟨-, h⟩ :=
    classifyOp_cases s.cfg.auxFnSel hi lo op data
  · rw [h]; exact ⟨_, rfl⟩
  · rw [h]
    obtain ⟨fn, -, he⟩ | ⟨-, he⟩ := exec_classifyAux s hi lo d1 rest
    · exact ⟨_, he⟩
    · exact ⟨_, he⟩
  · rw [h]; exact ⟨_, rfl⟩
  · rw [h]; exact ⟨_, rfl⟩

/-- Settles O48: each lane's camera id, from the bytes that the frame has in its address places. -/
theorem cameraIds : Obligations.CameraIds := by
  refine ⟨fun s i h => ?_, fun s i h => ?_, fun s i h htail hlen => ?_⟩
  · obtain ⟨a, c1, c2, d1, d2, hw, rfl⟩ := decodeD_ok _ _ _ h
    obtain ⟨k, hk⟩ := exec_classifyD_camera s s.cfg.extLut a c1 c2 d1 d2
    rw [hw]
    exact ⟨_, _, _, hk, rfl, rfl, cameraD_toNat a⟩
  · obtain ⟨a, c1, c2, d1, d2, hw, rfl⟩ := decodeP_ok _ _ _ h
    obtain ⟨k, hk⟩ := exec_classifyP_camera s s.cfg.extLut a c1 c2 d1 d2
    rw [hw]
    exact ⟨_, _, _, hk, rfl, rfl, cameraP_toNat a⟩
  · obtain ⟨header, hi, lo, op, data, ck, hw, rfl⟩ := decodeB_ok_op h hlen
    obtain ⟨k, hk⟩ := exec_classifyOp_camera s hi lo op data
    rw [hw] at htail ⊢
    simp only [tailLow, List.tail_cons, allLow7_cons, Bool.and_eq_true] at htail
    obtain ⟨hhi, hlo, -⟩ := htail
    have hcam := cameraB_toNat hhi hlo
    have h1 := toNat_lt_of_low7 hhi
    have h2 := toNat_lt_of_low7 hlo
    refine ⟨_, _, cameraB hi lo, hk, rfl, rfl, ?_, by omega, by omega⟩
    rw [hcam]
    exact congrArg (· + 1) (shiftLeft_or_of_low7 hlo).symm

/-- Settles O53: a frame with fewer than three payload bytes is short, and any other one has an op-code,
whose arms are read off it. -/
theorem boschDecoderArms : Obligations.BoschDecoderArms := by
  intro cfg w i len h hlen
  by_cases hshort : len < 4
  · obtain ⟨payload, -, rfl, rfl⟩ := decodeB_ok_encodeB h
    rw [encodeB_length] at hlen
    refine ⟨fun _ => ?_, fun _ => by omega, fun _ => by omega, fun _ => by omega,
      fun _ => by omega, fun _ => by omega, fun _ => by omega⟩
    rw [classifyB_short _ (by omega)]
    simp [encodeB_eq]
  · obtain ⟨header, hi, lo, op, data, ck, rfl, rfl⟩ := decodeB_ok_op h (by omega)
    simp only [List.length_cons, List.length_append, List.length_nil] at hlen
    simp only [List.getD_cons_succ, List.getD_cons_zero, List.drop_succ_cons, List.drop_zero,
      List.dropLast_concat]
    refine ⟨fun _ => by omega, ?_, ?_, ?_, ?_, ?_, ?_⟩
    · rintro - rfl hlt
      exact classifyOp_named rfl (fun _ => by omega) (fun h07 => absurd h07 (by decide))
    · rintro - rfl hge
      have hdata : 3 ≤ data.length := by omega
      match data, hdata with
      | d1 :: d2 :: d3 :: rest, _ => simp [classifyOp]
    · rintro rfl rfl
      obtain rfl : data = [] := List.eq_nil_of_length_eq_zero (by omega)
      rfl
    · rintro rfl hge
      have hdata : 1 ≤ data.length := by omega
      match data, hdata with
      | d1 :: rest, _ => simp [classifyOp]
    · rintro - rfl
      exact classifyOp_unknown rfl
    · intro _ h5 h7
      simp only [classifyOp, h5, h7, if_false]

/-- A named function with its code, as the list of the seven pairs. -/
theorem mem_auxFns (fn : AuxFn) : ((auxFnNumber fn).toNat, fn) ∈
    [(1, AuxFn.auxOn), (2, .auxOff), (4, .presetSet), (5, .presetShot), (8, .cancelLatchingAux),
      (9, .latchingAuxOn), (10, .latchingAuxOff)] := by
  cases fn <;> simp [auxFnNumber]

/-- Settles O54: the code is the four bits that the parameters name, and it selects the event. -/
theorem boschFunctionTable : Obligations.BoschFunctionTable := by
  intro s i h h07 hfill
  obtain ⟨header, hi, lo, op, data, ck, hw, rfl⟩ := decodeB_ok_op h (Nat.le_of_succ_le hfill)
  rw [State.fillB, hw] at hfill
  rw [hw] at h07 ⊢
  obtain rfl : op = 0x07 := h07
  have hdata : 1 ≤ data.length := by simpa using hfill
  match data, hdata with
  | d1 :: rest, _ =>
    have hcode := auxFnCode_toNat s.cfg.auxFnSel d1
    obtain ⟨fn, hfn, he⟩ | ⟨hmem, he⟩ := exec_classifyAux s hi lo d1 rest
    · refine ⟨_, _, _, he, rfl, rfl, .inl ⟨fn, ?_, rfl⟩⟩
      have hpair := mem_auxFns fn
      rwa [hfn, hcode] at hpair
    · refine ⟨_, _, _, he, rfl, rfl, .inr ⟨?_, ?_⟩⟩
      · have hnat := List.mem_map_of_mem (f := BitVec.toNat) hmem
        rwa [hcode] at hnat
      · have hofNat := BitVec.ofNat_toNat 4 (auxFnCode s.cfg.auxFnSel d1)
        rw [hcode, BitVec.setWidth_eq] at hofNat
        exact congrArg Kind.boschAuxUnknownFn hofNat.symm

end Sys2Proof.Machine
end
